-- ==== Sys2Proof/Word.lean ====
section
/-! DEFINITION. The words of the CZ30's two serial links (spec/10, R188): bytes, 16-bit fields and the
32-bit seconds count. -/

namespace Sys2Proof

/-- One byte of a frame (R188). -/
abbrev Byte := BitVec 8

/-- A two-byte field of a frame, sent high byte first (R188): signed for a temperature, trim, offset or
override value, unsigned for a count, speed, percentage or short time. -/
abbrev Half := BitVec 16

/-- A value of the seconds count (R204): 32 bits, wrapping from 4 294 967 295 to 0. -/
abbrev Second := BitVec 32

end Sys2Proof
end

