-- ==== Sys2Proof/Config.lean ====
section
/-! DEFINITION. The free values: what the spec leaves open and no statement may rest on. Each is a
constant without a body, so that nothing can be proved of the value it has. -/

namespace Sys2Proof

/-- Which of two hand-offs that one event makes reaches the receiving block first, at the `n`-th such
choice of a run (R19, R64, R92 and R185 leave it open; log entry 5). -/
opaque Config.secondFirst : Nat → Bool

/-- What a mark byte other than 0 and 1 in a loaded table entry stands for. R188 codes a mark as 1 when
set and 0 when clear and says nothing of the other bytes (log entry 6). -/
opaque Config.oddMark : Byte → Bool

/-- Whether the reply to a DOOR READ whose list (R132) passes the data of a REPLY (R188) carries the field that has so
many fields of the list behind it. No rule says which fields such a reply carries (log entry 11). -/
opaque Config.carriesCapture : List Byte → Nat → Bool

end Sys2Proof
end

