-- ==== Sys2Proof/Syntax.lean ====
section
/-! DEFINITION. The commands of the CZ30: one constructor of `Instr` per row of spec/opcode_table.json,
with the operands the row's rule gives it, and the names those operands use. -/

namespace Sys2Proof

/-- The three compartments, numbered FF 0, CD 1, FZ 2 (spec/03). -/
inductive Comp where
  | ff | cd | fz
deriving DecidableEq, Repr

/-- The four doors, numbered 0..3 in the order of their points (spec/06). -/
inductive DoorId where
  | ffL | ffR | cd | fz
deriving DecidableEq, Repr

/-- The seven driven actuators, numbered 0..6 (R141). -/
inductive Role where
  | comp | valve | heater | fanFF | fanFZ | fanCond | damperCD
deriving DecidableEq, Repr

/-- A point P0..P15 (spec/01). -/
abbrev PointId := Fin 16

/-- A table id of the table directory (R194). -/
abbrev TableId := Fin 21

/-- A frame of either link without its check (R188): destination, source, kind and payload. The check
is a function of these four (`Machine/Codec.lean`). -/
structure Frame where
  dst : Byte
  src : Byte
  kind : Byte
  payload : List Byte
deriving DecidableEq, Repr

/-- The argument bytes of a REQUEST as the management unit finds them: of the request's form, or with
arguments missing, in excess or of a value that the request cannot carry (R191). -/
inductive Args (α : Type) where
  | form (a : α)
  | illFormed
deriving DecidableEq, Repr

/-- QUERY carries a subject, an item and a page (R205). -/
structure QueryArgs where
  subject : Byte
  item : Byte
  page : Byte
deriving DecidableEq, Repr

/-- TABLE OPEN carries a table id and a start index (R195). -/
structure TableOpenArgs where
  table : Byte
  start : Byte
deriving DecidableEq, Repr

/-- TABLE DATA carries a table id and the bytes of whole entries (R196). -/
structure TableDataArgs where
  table : Byte
  bytes : List Byte
deriving DecidableEq, Repr

/-- TABLE READ carries a table id, a start index and a number of entries (R199). -/
structure TableReadArgs where
  table : Byte
  start : Byte
  count : Byte
deriving DecidableEq, Repr

/-- SET SETPOINT carries a compartment number and a temperature (R47). -/
structure SetpointArgs where
  comp : Byte
  value : Half
deriving DecidableEq, Repr

/-- PUSH OVERRIDE carries a compartment number, a kind, a value and a duration (R50). -/
structure PushArgs where
  comp : Byte
  kind : Byte
  value : Half
  duration : Half
deriving DecidableEq, Repr

/-- INJECT SAMPLE carries a point number and a raw count (R22). -/
structure InjectArgs where
  point : Byte
  count : Half
deriving DecidableEq, Repr

/-- The commands: requests and frames that arrive on the main link, frames and line events of the
cabinet line, expiries of the part's own timers, and the two resets. -/
inductive Instr where
  /-- POWER_ON_RESET (R207): RESET_N or the supply. -/
  | powerOnReset
  /-- WARM_RESTART (R206). -/
  | warmRestart (a : Args Unit)
  /-- RESTART_TAKES_EFFECT (R206): the last stop bit of the OK REPLY has gone out. -/
  | restartTakesEffect
  /-- IDENTIFY (R205). -/
  | identify (a : Args Unit)
  /-- QUERY (R205). -/
  | query (a : Args QueryArgs)
  /-- SET_MODE (R193): the target's code. -/
  | setMode (a : Args Byte)
  /-- SET_LOCK (R200): the level. -/
  | setLock (a : Args Byte)
  /-- TABLE_OPEN (R195). -/
  | tableOpen (a : Args TableOpenArgs)
  /-- TABLE_DATA (R196). -/
  | tableData (a : Args TableDataArgs)
  /-- TABLE_CLOSE (R197): the table id. -/
  | tableClose (a : Args Byte)
  /-- TABLE_ABORT (R198): the table id. -/
  | tableAbort (a : Args Byte)
  /-- TABLE_READ (R199). -/
  | tableRead (a : Args TableReadArgs)
  /-- SWAP_MAP (R39): A 0, B 1. -/
  | swapMap (a : Args Byte)
  /-- SET_SETPOINT (R47). -/
  | setSetpoint (a : Args SetpointArgs)
  /-- PUSH_OVERRIDE (R50). -/
  | pushOverride (a : Args PushArgs)
  /-- POP_OVERRIDE (R52): the compartment number. -/
  | popOverride (a : Args Byte)
  /-- CLEAR_OVERRIDES (R54): the compartment number, or 3 for ALL. -/
  | clearOverrides (a : Args Byte)
  /-- INJECT_SAMPLE (R22, R23). -/
  | injectSample (a : Args InjectArgs)
  /-- DEFROST_START (R111). -/
  | defrostStart (a : Args Unit)
  /-- DEFROST_HOLD (R116). -/
  | defrostHold (a : Args Unit)
  /-- DEFROST_RESUME (R118). -/
  | defrostResume (a : Args Unit)
  /-- LOAD_SHED (R97): BEGIN 0, END 1. -/
  | loadShed (a : Args Byte)
  /-- TRIP (R165). -/
  | trip (a : Args Unit)
  /-- REARM (R171). -/
  | rearm (a : Args Unit)
  /-- CLEAR_FAULTS (R202): the set of flags. -/
  | clearFaults (a : Args Half)
  /-- SET_ATTENTION_MASK (R202): the set of flags. -/
  | setAttentionMask (a : Args Half)
  /-- DOOR_READ (R132). -/
  | doorRead (a : Args Unit)
  /-- UNKNOWN_REQUEST (R191): a REQUEST whose name code is not known, or is 64. -/
  | unknownRequest (code : Byte)
  /-- RELAY_FRAME (R182): a main-link frame to a cabinet node. -/
  | relayFrame (f : Frame)
  /-- MAIN_FRAME_DISCARD (R189): a main-link frame that the part discards. -/
  | mainFrameDiscard
  /-- EGRESS_TRANSMIT (R192): the idle gap has passed and MTX takes the head of the queue. -/
  | egressTransmit
  /-- SECOND_TICK (R204). -/
  | secondTick
  /-- STALE_TIMER_EXPIRY (R11) of a point. -/
  | staleTimerExpiry (p : PointId)
  /-- OVERRIDE_EXPIRY (R53) of the entry in slot `slot` of a stack, counted from the bottom. -/
  | overrideExpiry (c : Comp) (slot : Nat)
  /-- BLIND_TIMER_EXPIRY (R61) of a compartment. -/
  | blindTimerExpiry (c : Comp)
  /-- WARM_ALARM_EXPIRY (R67) of a compartment. -/
  | warmAlarmExpiry (c : Comp)
  /-- SWITCH_COMPLETION (R83). -/
  | switchCompletion
  /-- MINIMUM_HOLD_EXPIRY (R88). -/
  | minimumHoldExpiry
  /-- MAXIMUM_HOLD_EXPIRY (R90). -/
  | maximumHoldExpiry
  /-- DEFROST_DUE (R110). -/
  | defrostDue
  /-- SHED_DEFERRAL_RUN_OUT (R112). -/
  | shedDeferralRunOut
  /-- HEAT_TIMEOUT (R115). -/
  | heatTimeout
  /-- BUDGET_EXHAUSTION (R117). -/
  | budgetExhaustion
  /-- DRIP_TIMER_EXPIRY (R120). -/
  | dripTimerExpiry
  /-- RECOVER_TIMER_EXPIRY (R121). -/
  | recoverTimerExpiry
  /-- FAN_STOP_TIMER_EXPIRY (R134) of a door. -/
  | fanStopTimerExpiry (d : DoorId)
  /-- AJAR_TIMER_EXPIRY (R135) of a door. -/
  | ajarTimerExpiry (d : DoorId)
  /-- REFRESH_TIMER_EXPIRY (R144) of a role slot. -/
  | refreshTimerExpiry (r : Role)
  /-- OFF_CYCLE_TIMER_EXPIRY (R147). -/
  | offCycleTimerExpiry
  /-- DEVIATION_TIMER_EXPIRY (R159). -/
  | deviationTimerExpiry
  /-- ABSENCE_TIMER_EXPIRY (R169). -/
  | absenceTimerExpiry
  /-- CLEAN_TIMER_EXPIRY (R170). -/
  | cleanTimerExpiry
  /-- LOAD_TIMER_EXPIRY (R198). -/
  | loadTimerExpiry
  /-- POLL_DUE (R181): the next-due time of a listed node comes. -/
  | pollDue (node : Byte)
  /-- CABINET_FRAME_SENT (R177): the last stop bit of the part's frame goes out. -/
  | cabinetFrameSent
  /-- CABINET_REPLY (R177): a frame with a good check and length has been received on CRX. -/
  | cabinetReply (f : Frame)
  /-- CABINET_FRAME_DISCARD (R178): a frame that is no reply has been received on CRX. -/
  | cabinetFrameDiscard
  /-- REPLY_WINDOW_TIMEOUT (R177): the reply window closes. -/
  | replyWindowTimeout
deriving DecidableEq, Repr

end Sys2Proof
end

