-- ==== Sys2Proof/Machine/State.lean ====
section
/-! DEFINITION. The state of the CZ30 as plain data: every record, queue, timer, table, flag and mark the
spec gives the part, block by block (`Part`), the queue of waiting commands beside it (`State`), and the
values after power-on reset. -/

namespace Sys2Proof.Machine

/-! ## Fixed collections: one value per compartment, door, role or claimant -/

/-- One value per compartment. -/
structure Comps (α : Type) where
  ff : α
  cd : α
  fz : α
deriving DecidableEq, Repr

/-- The value for a compartment. -/
def Comps.get {α : Type} (v : Comps α) : Comp → α
  | .ff => v.ff
  | .cd => v.cd
  | .fz => v.fz

/-- The collection with the value of one compartment replaced. -/
def Comps.set {α : Type} (v : Comps α) (c : Comp) (x : α) : Comps α :=
  match c with
  | .ff => { v with ff := x }
  | .cd => { v with cd := x }
  | .fz => { v with fz := x }

/-- Every value passed through a function of its compartment. -/
def Comps.mapWith {α β : Type} (f : Comp → α → β) (v : Comps α) : Comps β :=
  ⟨f .ff v.ff, f .cd v.cd, f .fz v.fz⟩

/-- One value per door. -/
structure Doors (α : Type) where
  ffL : α
  ffR : α
  cd : α
  fz : α
deriving DecidableEq, Repr

/-- The value for a door. -/
def Doors.get {α : Type} (v : Doors α) : DoorId → α
  | .ffL => v.ffL
  | .ffR => v.ffR
  | .cd => v.cd
  | .fz => v.fz

/-- The collection with the value of one door replaced. -/
def Doors.set {α : Type} (v : Doors α) (d : DoorId) (x : α) : Doors α :=
  match d with
  | .ffL => { v with ffL := x }
  | .ffR => { v with ffR := x }
  | .cd => { v with cd := x }
  | .fz => { v with fz := x }

/-- Every value passed through a function of its door. -/
def Doors.mapWith {α β : Type} (f : DoorId → α → β) (v : Doors α) : Doors β :=
  ⟨f .ffL v.ffL, f .ffR v.ffR, f .cd v.cd, f .fz v.fz⟩

/-- One value per role. -/
structure Roles (α : Type) where
  comp : α
  valve : α
  heater : α
  fanFF : α
  fanFZ : α
  fanCond : α
  damperCD : α
deriving DecidableEq, Repr

/-- The value for a role. -/
def Roles.get {α : Type} (v : Roles α) : Role → α
  | .comp => v.comp
  | .valve => v.valve
  | .heater => v.heater
  | .fanFF => v.fanFF
  | .fanFZ => v.fanFZ
  | .fanCond => v.fanCond
  | .damperCD => v.damperCD

/-- The collection with the value of one role replaced. -/
def Roles.set {α : Type} (v : Roles α) (r : Role) (x : α) : Roles α :=
  match r with
  | .comp => { v with comp := x }
  | .valve => { v with valve := x }
  | .heater => { v with heater := x }
  | .fanFF => { v with fanFF := x }
  | .fanFZ => { v with fanFZ := x }
  | .fanCond => { v with fanCond := x }
  | .damperCD => { v with damperCD := x }

/-- Every value passed through a function of its role. -/
def Roles.mapWith {α β : Type} (f : Role → α → β) (v : Roles α) : Roles β :=
  ⟨f .comp v.comp, f .valve v.valve, f .heater v.heater, f .fanFF v.fanFF, f .fanFZ v.fanFZ,
    f .fanCond v.fanCond, f .damperCD v.damperCD⟩

/-! ## Timers -/

/-- A timer in whole seconds. `running 0` is a timer that has reached 0 and whose expiry has not yet
been taken as an event (log entry 3); `expired` is the lasting state that R73 and R162 give the hold
timers and the absence timer. -/
inductive Timer where
  | stopped
  | running (remaining : Nat)
  | expired
deriving DecidableEq, Repr

/-- One second of a running timer. -/
def Timer.tick : Timer → Timer
  | .running (n + 1) => .running n
  | t => t

/-- The timer's expiry is waiting to be taken. -/
def Timer.due (t : Timer) : Bool := t = .running 0

/-! ## Modes -/

/-- The operating mode (R193), with the codes of R188 in this order. -/
inductive Mode where
  | bypass | regulate | service | showroom
deriving DecidableEq, Repr

/-- The mode SHOWROOM was entered from (spec/10 section 10.4). -/
inductive Origin where
  | bypass | regulate
deriving DecidableEq, Repr

/-! ## The point unit (R1, R2) -/

/-- The freshness of a point's own value. -/
inductive PointState where
  | unseen | fresh | stale | faulty
deriving DecidableEq, Repr

/-- What a point offers its consumers: the value, the point it is taken from and the number of fallback
links followed. -/
structure Resolved where
  value : Int
  source : PointId
  links : Nat
deriving DecidableEq, Repr

/-- The point record of R1. The resolved value, source and links used stand or fail together. -/
structure Point where
  state : PointState
  filtered : Int
  lastRaw : Option Nat
  lastSecond : Option Second
  stale : Timer
  resolved : Option Resolved
  lost : Bool
deriving DecidableEq, Repr

/-- One entry of the working copy of POINT_SET (R2). -/
structure PointSetting where
  fallback : Option PointId
  staleTime : Nat
deriving DecidableEq, Repr

/-! ## The map unit -/

/-- The active-map selector (R29). -/
inductive MapSel where
  | a | b
deriving DecidableEq, Repr

/-! ## The compartment unit (R44, R46, R49) -/

/-- The kind of an override (R49). -/
inductive OverrideKind where
  | absolute | offset
deriving DecidableEq, Repr

/-- Who placed an override (R49). -/
inductive OverrideOrigin where
  | controller | door
deriving DecidableEq, Repr

/-- Whether an override takes part in the effective setpoint (R49). -/
inductive OverrideTag where
  | live | spent
deriving DecidableEq, Repr

/-- An entry of an override stack (R49). -/
structure Override where
  kind : OverrideKind
  value : Int
  duration : Nat
  remaining : Nat
  origin : OverrideOrigin
  tag : OverrideTag
deriving DecidableEq, Repr

/-- One entry of CMP_TUNING (R46). -/
structure Tuning where
  dIn : Int
  dOut : Int
  eUrg : Int
  eFull : Int
  fan : Nat
  blindOn : Nat
  blindOff : Nat
  warmTemp : Int
  warmDelay : Nat
  doorMin : Nat
  doorOffset : Int
  doorDuration : Nat
deriving DecidableEq, Repr

/-- A compartment's want of cooling (R44). -/
inductive Demand where
  | waiting | idle | calling | blindCall | blindRest
deriving DecidableEq, Repr

/-- The states of the warm alarm (R66). -/
inductive Warm where
  | clear | counting | paused | alarmed
deriving DecidableEq, Repr

/-- The compartment record of R44. The stack is kept top entry first. The error is not stored: it is
the resolved air value less the effective setpoint (`CompRec.error`). -/
structure CompRec where
  base : Int
  spMin : Int
  spMax : Int
  stack : List Override
  effective : Int
  air : Option Int
  lost : Bool
  demand : Demand
  urgent : Bool
  blind : Timer
  warmCount : Nat
  warm : Warm
  tuning : Tuning
  pending : Option Tuning
deriving DecidableEq, Repr

/-! ## The path arbiter (R73, R74, R75, R76) -/

/-- What the path is doing (R73). -/
inductive PathState where
  | off | switch | run | defrost | tripped | service | parked
deriving DecidableEq, Repr

/-- The claimants of the path (R73). -/
inductive Claimant where
  | ff | fz | df
deriving DecidableEq, Repr

/-- The two positions of the refrigerant valve, coded FF 0 and FZ 1 (R188). -/
inductive Valve where
  | ff | fz
deriving DecidableEq, Repr

/-- The claim record of R74: raised mark, class, arrival key and urgent-since key. -/
structure Claim where
  raised : Bool
  cls : Nat
  arrival : Nat
  urgentSince : Nat
deriving DecidableEq, Repr

/-- One claim record per claimant. -/
structure Claims where
  ff : Claim
  fz : Claim
  df : Claim
deriving DecidableEq, Repr

/-- The claim record of a claimant. -/
def Claims.get (v : Claims) : Claimant → Claim
  | .ff => v.ff
  | .fz => v.fz
  | .df => v.df

/-- The records with that of one claimant replaced. -/
def Claims.set (v : Claims) (k : Claimant) (x : Claim) : Claims :=
  match k with
  | .ff => { v with ff := x }
  | .fz => { v with fz := x }
  | .df => { v with df := x }

/-- The path record of R73, with the claim records of R74 and the two sources of the FZ claim. The
holder class is not stored: it is the class of the holder's claim record (`PathRec.holderClass`). -/
structure PathRec where
  state : PathState
  holder : Option Claimant
  valve : Valve
  runStarted : Bool
  satisfied : Bool
  switchTimer : Timer
  minHold : Timer
  maxHold : Timer
  queue : List Claimant
  speed : Nat
  prevSpeed : Option Nat
  divider : Nat
  shed : Bool
  claims : Claims
  /-- The compartment FZ claim, one of the two sources of FZ (R74). -/
  fzRaised : Bool
  fzUrgent : Bool
  /-- The recover claim, the other source of FZ (R74). -/
  recover : Bool
  /-- The next key: every event that sets a key takes it and raises it by one (R74). -/
  nextKey : Nat
deriving DecidableEq, Repr

/-- The PATH_LIMITS entry in force (R75). -/
structure PathLimits where
  sMin : Nat
  sMax : Nat
  restartInhibit : Nat
  maxHeat : Nat
  holdBudget : Nat
deriving DecidableEq, Repr

/-- The PATH_TUNING entry in force (R76). -/
structure PathTuning where
  minHold : Nat
  maxHold : Nat
  changeTime : Nat
  changeSpeed : Nat
  slew : Nat
  speedDivider : Nat
  shedCeiling : Nat
  pollPeriod : Nat
deriving DecidableEq, Repr

/-! ## The defrost sequencer (R106, R107, R108) -/

/-- Where the sequencer stands (R106). -/
inductive Phase where
  | idle | due | prep | heat | hold | drip | recover
deriving DecidableEq, Repr

/-- How a defrost ended (R106). -/
inductive EndCause where
  | terminated | timedOut | abortedTrip | abortedMode
deriving DecidableEq, Repr

/-- The last-defrost record (R106). -/
structure LastDefrost where
  heatTime : Nat
  holdUsed : Nat
  cause : EndCause
  interval : Option Nat
  second : Second
deriving DecidableEq, Repr

/-- The defrost record of R106. `budgetLoaded` is the hold budget loaded at PREP and `endCause` the end
cause kept from HEAT for R120. -/
structure DefrostRec where
  phase : Phase
  accumulation : Nat
  interval : Nat
  dueSince : Option Second
  shedCopy : Bool
  dfClaim : Bool
  recoverClaim : Bool
  heatTime : Nat
  budget : Nat
  budgetLoaded : Nat
  endCause : Option EndCause
  drip : Timer
  recover : Timer
  coil : Option Int
  heater : Bool
  last : Option LastDefrost
deriving DecidableEq, Repr

/-- The DEFROST_SET entry in force (R107). -/
structure DefrostSet where
  firstInterval : Nat
  doorWeight : Nat
  terminate : Int
  recoverFan : Int
  recoverTime : Nat
  maxDeferral : Nat
deriving DecidableEq, Repr

/-- A used row of the interval table's working copy (R108). -/
structure IntervalRow where
  heatLimit : Nat
  interval : Nat
deriving DecidableEq, Repr

/-! ## The door unit (R127, R128) -/

/-- How a captured interval ended (R131). -/
inductive WidthLevel where
  | openLevel | lost
deriving DecidableEq, Repr

/-- The door record of R127. -/
structure DoorRec where
  isOpen : Bool
  openSince : Option Second
  width : Option Nat
  widthLevel : Option WidthLevel
  unread : Bool
  overcapture : Bool
  fanStop : Timer
  stopActive : Bool
  ajar : Timer
  ajarMark : Bool
deriving DecidableEq, Repr

/-- One entry of DOOR_SET in force (R128). -/
structure DoorSetting where
  fanStopDelay : Nat
  ajarTime : Nat
deriving DecidableEq, Repr

/-! ## The drive unit (R141, R142, R143, R151, R159) -/

/-- The last DRIVE STATUS taken for a role (R141, R158). -/
structure DriveStatus where
  measured : Nat
  fault : Bool
  second : Second
deriving DecidableEq, Repr

/-- A role slot (R141). Values are the codes a DRIVE frame carries: rpm, percent, VALVE FF 0 / FZ 1,
HEATER off 0 / on 1. `moved` holds the part of the changed mark that a move of location sets (R142). -/
structure Slot where
  requested : Nat
  outgoing : Option Nat
  sent : Option Nat
  changed : Bool
  moved : Bool
  refresh : Timer
  due : Bool
  tripMark : Bool
  status : Option DriveStatus
deriving DecidableEq, Repr

/-- A place on the cabinet line (R142). -/
structure Location where
  node : Nat
  channel : Nat
deriving DecidableEq, Repr

/-- The INTERLOCK entry in force (R143). -/
structure InterlockSet where
  tPre : Nat
  tDrip : Nat
deriving DecidableEq, Repr

/-- The states of the damper monitor (R159). -/
inductive DamperState where
  | watching | deviating | flagged
deriving DecidableEq, Repr

/-! ## The trip unit (R162, R163) -/

/-- Whether a trip stands (R162). -/
inductive TripState where
  | normal | tripped | lockout
deriving DecidableEq, Repr

/-- What takes a trip (R162). -/
inductive Cause where
  | driveFault | driveSilent | hostTrip
deriving DecidableEq, Repr

/-- A set of causes. -/
structure Causes where
  driveFault : Bool
  driveSilent : Bool
  hostTrip : Bool
deriving DecidableEq, Repr

/-- How a trip ended (R162). -/
inductive TripEnd where
  | auto | rearm | warmRestart
deriving DecidableEq, Repr

/-- The last-trip record (R162). -/
structure LastTrip where
  first : Option Cause
  causes : Causes
  second : Option Second
  how : TripEnd
deriving DecidableEq, Repr

/-- The trip record of R162. -/
structure TripRec where
  state : TripState
  first : Option Cause
  second : Option Second
  causes : Causes
  silent : Nat
  absence : Timer
  rearms : Nat
  clean : Timer
  last : Option LastTrip
deriving DecidableEq, Repr

/-- The TRIP_SET entry in force (R163): HOLD marks, the auto-rearm setting and the rearm delay. -/
structure TripSet where
  holdFF : Bool
  holdFZ : Bool
  holdCond : Bool
  holdDamper : Bool
  autoRearm : Bool
  rearmDelay : Nat
deriving DecidableEq, Repr

/-! ## The cabinet scheduler (R175, R176, R177) -/

/-- What the line is doing (R175). -/
inductive LineState where
  | free | sending | awaiting
deriving DecidableEq, Repr

/-- The origin of a transaction (R177). A relayed DRIVE frame to an owned role names its role. -/
inductive TxnOrigin where
  | poll
  | slot (r : Role)
  | relay (r : Option Role)
deriving DecidableEq, Repr

/-- The frame in flight (R177). The reply expected follows from it: see `Txn.expects`. -/
structure Txn where
  frame : Frame
  origin : TxnOrigin
deriving DecidableEq, Repr

/-- Which of the two alternating kinds went last (R175). -/
inductive LastTaken where
  | relay | poll
deriving DecidableEq, Repr

/-- The level of the CDIR output (R176). -/
inductive Cdir where
  | drive | receive
deriving DecidableEq, Repr

/-- The line record of R175, the CDIR output of R176 and the scheduler's millisecond time. `times` is
the poll list (R37), each node with its next-due time (R181). -/
structure LineRec where
  state : LineState
  txn : Option Txn
  window : Option Nat
  lastTaken : LastTaken
  relay : List Frame
  times : List (Nat × Nat)
  ms : Nat
  cdir : Cdir
deriving DecidableEq, Repr

/-! ## The management unit -/

/-- What a frame of the egress queue is (R192). `restartReply` is the OK REPLY of WARM RESTART, whose
last stop bit the restart waits for (R206). -/
inductive EgressSort where
  | reply | relayed | readings | restartReply
deriving DecidableEq, Repr

/-- A frame of the main egress queue (R192). -/
structure Egress where
  sort : EgressSort
  frame : Frame
deriving DecidableEq, Repr

/-- The state of a table in the directory (R194). -/
inductive TableState where
  | valid | invalid | loading
deriving DecidableEq, Repr

/-- A table of the directory: its state and its stored entries, each the list of its fields (R194). -/
structure Table where
  state : TableState
  entries : List (List Int)
deriving DecidableEq, Repr

/-- The load record of R195 while a load is open. -/
structure Load where
  table : TableId
  cursor : Nat
  timer : Timer
deriving DecidableEq, Repr

/-- A set of READINGS, REPLY, RELAY: the detail of DROP (R201). -/
structure DropSet where
  readings : Bool
  reply : Bool
  relay : Bool
deriving DecidableEq, Repr

/-- The details of the fault flags (R201); LOCKOUT and DAMPER carry none. -/
structure Details where
  sensor : Vector Bool 16
  blind : Comps Bool
  overflow : Comps Bool
  underflow : Comps Bool
  warm : Comps Bool
  defrostLong : Nat
  ajar : Doors Bool
  trip : Causes
  drive : Roles Bool
  drop : DropSet
  load : Vector Bool 21
deriving DecidableEq, Repr

/-- The first five fields of the last-refusal record (R203). -/
structure RefusalRec where
  code : Byte
  source : Byte
  dest : Byte
  status : Byte
  second : Second
deriving DecidableEq, Repr

/-! ## The whole part -/

/-- Everything the spec gives the CZ30. -/
structure Part where
  /-- Management unit: mode and SHOWROOM origin (R193). -/
  mode : Mode
  origin : Option Origin
  /-- The seconds count (R204). -/
  seconds : Second
  /-- Point unit: the records (R1) and the working copy of POINT_SET (R2). -/
  points : Vector Point 16
  pointSet : Vector PointSetting 16
  /-- Map unit: the active-map selector (R29). -/
  activeMap : MapSel
  /-- Compartment unit: the records (R44); limits and tunings in force stand in them. -/
  comps : Comps CompRec
  /-- Path arbiter (R73) and its working entries (R75, R76). -/
  path : PathRec
  pathLimits : PathLimits
  pathTuning : PathTuning
  /-- Defrost sequencer (R106), its working entry (R107) and the used rows of its working copy of the
  interval table (R108). -/
  defrost : DefrostRec
  defrostSet : DefrostSet
  intervals : List IntervalRow
  /-- Door unit: the records (R127) and the working settings (R128). The door-stop conditions are
  functions of the stop-active marks (`Part.ffStop`, `Part.cdStop`, `Part.fzStop`). -/
  doors : Doors DoorRec
  doorSet : Doors DoorSetting
  /-- Drive unit: slots (R141), working drive map or none (R142), interlock entry (R143), interlock
  clocks (R151), FF off-cycle timer (R147) and damper monitor (R159). -/
  slots : Roles Slot
  driveMap : Option (Roles Location)
  interlock : InterlockSet
  compStop : Option Second
  heaterOff : Option Second
  offCycle : Timer
  damper : DamperState
  deviation : Timer
  /-- Trip unit (R162) and its working entry (R163). -/
  trip : TripRec
  tripSet : TripSet
  /-- Cabinet scheduler (R175). -/
  line : LineRec
  /-- Management unit: egress queue, oldest first (R192), and the frame last begun on MTX. -/
  egress : List Egress
  mtx : Option Egress
  /-- Table directory (R194) and load record (R195). -/
  tables : Vector Table 21
  load : Option Load
  /-- Lock level and its written mark (R200). -/
  lockLevel : Nat
  lockWritten : Bool
  /-- Fault flags, row i of R201 at bit i, attention mask (R202) and details. -/
  flags : BitVec 12
  mask : BitVec 12
  details : Details
  /-- The last-refusal record, none when empty, and its count (R203). -/
  refusal : Option RefusalRec
  refusals : Nat
  /-- A restart is pending (R206). -/
  restartPending : Bool
  /-- The model's own: how many open choices of order have been made (log entry 5). -/
  choices : Nat
deriving DecidableEq, Repr

/-- The machine: the part and the commands that wait for it, first in, first out. -/
structure State where
  part : Part
  pending : List Instr
deriving DecidableEq, Repr

/-- The reasons a step can stop with a fault: none. The spec gives every command an effect. -/
inductive Fault where
deriving DecidableEq, Repr

/-- The reasons a step can refuse a command. -/
inductive Refusal where
  /-- Raised by `exec` alone, for a command whose meaning is not written yet; safe. No arm raises it. -/
  | notModelled (mnemonic : String)
deriving DecidableEq, Repr

/-! ## Power-on values -/

/-- A point after power-on reset (R26). -/
def Point.initial : Point where
  state := .unseen
  filtered := 0
  lastRaw := none
  lastSecond := none
  stale := .stopped
  resolved := none
  lost := false

/-- The power-on tuning of a compartment (R46). -/
def Tuning.initial : Comp → Tuning
  | .ff => ⟨100, 100, 400, 400, 80, 900, 1800, 1000, 3600, 60, -100, 600⟩
  | .cd => ⟨100, 100, 400, 400, 0, 900, 1800, 800, 3600, 60, -100, 600⟩
  | .fz => ⟨150, 150, 500, 400, 100, 1200, 1200, -800, 7200, 60, -100, 600⟩

/-- The power-on limits of a compartment (R45). -/
def initialLimits : Comp → Int × Int
  | .ff => (100, 700)
  | .cd => (-600, 400)
  | .fz => (-2400, -1400)

/-- The power-on base setpoint of a compartment (R72). -/
def initialBase : Comp → Int
  | .ff => 300
  | .cd => -100
  | .fz => -1800

/-- A compartment record right after a reset (R72), from its base setpoint, limits and tuning. -/
def CompRec.afterReset (base spMin spMax : Int) (t : Tuning) : CompRec where
  base := base
  spMin := spMin
  spMax := spMax
  stack := []
  effective := base
  air := none
  lost := false
  demand := .idle
  urgent := false
  blind := .stopped
  warmCount := 0
  warm := .clear
  tuning := t
  pending := none

/-- A compartment after power-on reset (R72). -/
def CompRec.initial (c : Comp) : CompRec :=
  .afterReset (initialBase c) (initialLimits c).1 (initialLimits c).2 (.initial c)

/-- The path record right after either reset (R105). -/
def PathRec.initial : PathRec where
  state := .parked
  holder := none
  valve := .fz
  runStarted := false
  satisfied := false
  switchTimer := .stopped
  minHold := .stopped
  maxHold := .stopped
  queue := []
  speed := 0
  prevSpeed := none
  divider := 0
  shed := false
  claims := ⟨⟨false, 2, 0, 0⟩, ⟨false, 2, 0, 0⟩, ⟨false, 0, 0, 0⟩⟩
  fzRaised := false
  fzUrgent := false
  recover := false
  nextKey := 0

/-- The defrost record after power-on reset (R126). -/
def DefrostRec.initial : DefrostRec where
  phase := .idle
  accumulation := 0
  interval := 28800
  dueSince := none
  shedCopy := false
  dfClaim := false
  recoverClaim := false
  heatTime := 0
  budget := 0
  budgetLoaded := 0
  endCause := none
  drip := .stopped
  recover := .stopped
  coil := none
  heater := false
  last := none

/-- A door record right after either reset (R139). -/
def DoorRec.initial : DoorRec where
  isOpen := false
  openSince := none
  width := none
  widthLevel := none
  unread := false
  overcapture := false
  fanStop := .stopped
  stopActive := false
  ajar := .stopped
  ajarMark := false

/-- A slot after power-on reset (R161): nothing sent, so the requested value is let out and changed. -/
def Slot.initial (requested : Nat) : Slot where
  requested := requested
  outgoing := some requested
  sent := none
  changed := true
  moved := false
  refresh := .stopped
  due := false
  tripMark := false
  status := none

/-- The requested values that either reset leaves (R161): VALVE FZ (code 1), everything else 0. -/
def initialRequest : Role → Nat
  | .valve => 1
  | _ => 0

/-- No cause. -/
def Causes.empty : Causes := ⟨false, false, false⟩

/-- The trip record after power-on reset (R174). -/
def TripRec.initial : TripRec where
  state := .normal
  first := none
  second := none
  causes := .empty
  silent := 0
  absence := .stopped
  rearms := 0
  clean := .stopped
  last := none

/-- The line record right after a reset (R187), with the poll list and its next-due times. -/
def LineRec.afterReset (times : List (Nat × Nat)) : LineRec where
  state := .free
  txn := none
  window := none
  lastTaken := .poll
  relay := []
  times := times
  ms := 0
  cdir := .receive

/-- The details after either reset: all empty. -/
def Details.empty : Details where
  sensor := Vector.replicate 16 false
  blind := ⟨false, false, false⟩
  overflow := ⟨false, false, false⟩
  underflow := ⟨false, false, false⟩
  warm := ⟨false, false, false⟩
  defrostLong := 0
  ajar := ⟨false, false, false, false⟩
  trip := .empty
  drive := ⟨false, false, false, false, false, false, false⟩
  drop := ⟨false, false, false⟩
  load := Vector.replicate 21 false

/-- The tables after power-on reset, in the order of their ids (R194). Unused knots, map entries and
rows hold zeros (R43 says so of the maps; log entry 8 for the others). -/
def initialTables : Vector Table 21 :=
  let curve : Table := ⟨.invalid, List.replicate 17 [0, 0, 0]⟩
  let map : Table := ⟨.valid, List.replicate 24 [0, 0, 0, 0, 0, 0, 0, 0, 0]⟩
  #v[map, map, curve, curve, curve, curve, curve, curve, curve, curve,
    ⟨.valid, List.replicate 16 [255, 10]⟩,
    ⟨.invalid, List.replicate 7 [0, 0]⟩,
    ⟨.valid, [[60, 300]]⟩,
    ⟨.valid, [[0, 0, 0, 0, 0, 60]]⟩,
    ⟨.valid, [[100, 700], [-600, 400], [-2400, -1400]]⟩,
    ⟨.valid, [[1600, 4200, 300, 2400, 900]]⟩,
    ⟨.valid, [[100, 100, 400, 400, 80, 900, 1800, 1000, 3600, 60, -100, 600],
      [100, 100, 400, 400, 0, 900, 1800, 800, 3600, 60, -100, 600],
      [150, 150, 500, 400, 100, 1200, 1200, -800, 7200, 60, -100, 600]]⟩,
    ⟨.valid, [[120, 1200, 15, 1800, 200, 1, 2400, 1000]]⟩,
    ⟨.valid, [[28800, 10, 1000, -500, 300, 14400]]⟩,
    ⟨.valid, List.replicate 6 [0, 0, 0]⟩,
    ⟨.valid, [[10, 300], [10, 300], [5, 300], [5, 300]]⟩]

/-- The part after power-on reset. -/
def Part.initial : Part where
  mode := .bypass
  origin := none
  seconds := 0
  points := Vector.replicate 16 .initial
  pointSet := Vector.replicate 16 ⟨none, 10⟩
  activeMap := .a
  comps := ⟨.initial .ff, .initial .cd, .initial .fz⟩
  path := .initial
  pathLimits := ⟨1600, 4200, 300, 2400, 900⟩
  pathTuning := ⟨120, 1200, 15, 1800, 200, 1, 2400, 1000⟩
  defrost := .initial
  defrostSet := ⟨28800, 10, 1000, -500, 300, 14400⟩
  intervals := []
  doors := ⟨.initial, .initial, .initial, .initial⟩
  doorSet := ⟨⟨10, 300⟩, ⟨10, 300⟩, ⟨5, 300⟩, ⟨5, 300⟩⟩
  slots := ⟨.initial 0, .initial 1, .initial 0, .initial 0, .initial 0, .initial 0, .initial 0⟩
  driveMap := none
  interlock := ⟨60, 300⟩
  compStop := some 0
  heaterOff := some 0
  offCycle := .stopped
  damper := .watching
  deviation := .stopped
  trip := .initial
  tripSet := ⟨false, false, false, false, true, 60⟩
  line := .afterReset []
  egress := []
  mtx := none
  tables := initialTables
  load := none
  lockLevel := 0
  lockWritten := false
  flags := 0
  mask := 0
  details := .empty
  refusal := none
  refusals := 0
  restartPending := false
  choices := 0

/-- The machine right after power-on reset, with no command waiting. -/
def State.reset : State := ⟨Part.initial, []⟩

end Sys2Proof.Machine
end

