-- ==== Sys2Proof/Machine/Codec.lean ====
section
/-! DEFINITION. The byte forms of R188: numbers, marks, named values and none in a payload; the frame and
its check; and the fields of a table entry. -/

namespace Sys2Proof.Machine

/-! ## Numbers in a payload (R188) -/

/-- A field that takes one byte. -/
def u8 (n : Nat) : List Byte := [BitVec.ofNat 8 n]

/-- An unsigned 16-bit number, high byte first. -/
def u16 (n : Nat) : List Byte := [BitVec.ofNat 8 (n / 256), BitVec.ofNat 8 n]

/-- An unsigned 32-bit number, high byte first. -/
def u32 (n : Nat) : List Byte := u16 (n / 65536) ++ u16 n

/-- A signed 16-bit number in two's complement, high byte first. -/
def i16 (v : Int) : List Byte := u16 (v % 65536).toNat

/-- A mark: 1 when set, 0 when clear. -/
def markByte (b : Bool) : List Byte := u8 (if b then 1 else 0)

/-- A claim's state, by its place in R106's list of values: raised 0, withdrawn 1 (R188). -/
def claimByte (raised : Bool) : List Byte := u8 (if raised then 0 else 1)

/-- A one-byte field or none, 255. -/
def optU8 : Option Nat → List Byte
  | none => u8 255
  | some n => u8 n

/-- An unsigned 16-bit field or none, 65 535. -/
def optU16 : Option Nat → List Byte
  | none => u16 65535
  | some n => u16 n

/-- A signed 16-bit field or none, −32 768. -/
def optI16 : Option Int → List Byte
  | none => i16 (-32768)
  | some v => i16 v

/-- A recorded second or none, 4 294 967 295. -/
def optSecond : Option Second → List Byte
  | none => u32 4294967295
  | some s => u32 s.toNat

/-- The remaining seconds of a timer: stopped is written as none, an expired timer as 0 (log entry 7). -/
def timerBytes : Timer → List Byte
  | .stopped => u16 65535
  | .running n => u16 n
  | .expired => u16 0

/-- The unsigned number of two bytes, high byte first. -/
def natOf16 (hi lo : Byte) : Nat := hi.toNat * 256 + lo.toNat

/-- The signed number of two bytes, high byte first. -/
def intOf16 (hi lo : Byte) : Int := (hi ++ lo : BitVec 16).toInt

/-- The two-byte field of two bytes, high byte first. -/
def halfOf (hi lo : Byte) : Half := hi ++ lo

/-! ## The frame and its check (R188) -/

/-- One bit into the check: polynomial x^16 + x^12 + x^5 + 1, no reflection. -/
def crcBit (c : Half) (b : Bool) : Half :=
  if c.msb = b then c <<< 1 else (c <<< 1) ^^^ 0x1021#16

/-- One byte into the check, its high bit first. -/
def crcByte (c : Half) (x : Byte) : Half :=
  [7, 6, 5, 4, 3, 2, 1, 0].foldl (fun acc i => crcBit acc (x.getLsbD i)) c

/-- The check over a list of bytes: initial value all ones, no final XOR. -/
def crc16 (bytes : List Byte) : Half := bytes.foldl crcByte 0xFFFF#16

/-- Destination through payload. -/
def frameBody (f : Frame) : List Byte :=
  [f.dst, f.src, f.kind, BitVec.ofNat 8 f.payload.length] ++ f.payload

/-- The whole frame as it stands on a link, its check high byte first. -/
def frameBytes (f : Frame) : List Byte := frameBody f ++ u16 (crc16 (frameBody f)).toNat

/-- The frame that received bytes are, when the length field is at most 40 and agrees with the number
of bytes and the check is good (R178, R189). -/
def frameOfBytes : List Byte → Option Frame
  | d :: s :: k :: n :: rest =>
    let f : Frame := ⟨d, s, k, rest.take n.toNat⟩
    if n.toNat ≤ 40 ∧ rest.length = n.toNat + 2 ∧ frameBytes f = d :: s :: k :: n :: rest then some f
    else none
  | _ => none

/-- The frame kinds of R188. -/
def kindPoll : Byte := 1
def kindSample : Byte := 2
def kindDrive : Byte := 3
def kindDriveStatus : Byte := 4
def kindRequest : Byte := 5
def kindReply : Byte := 6
def kindReadings : Byte := 7

/-! ## Table entries (R194) -/

/-- The form of a field of a table entry. -/
inductive Form where
  | u8 | u16 | i16 | u32
deriving DecidableEq, Repr

/-- The bytes of a field. -/
def Form.write (f : Form) (v : Int) : List Byte :=
  match f with
  | .u8 => Machine.u8 v.toNat
  | .u16 => Machine.u16 v.toNat
  | .i16 => Machine.i16 v
  | .u32 => Machine.u32 v.toNat

/-- A field read off the front of the bytes, with the bytes left. -/
def Form.read (f : Form) (bytes : List Byte) : Option (Int × List Byte) :=
  match f, bytes with
  | .u8, a :: rest => some ((a.toNat : Int), rest)
  | .u16, a :: b :: rest => some ((natOf16 a b : Int), rest)
  | .i16, a :: b :: rest => some (intOf16 a b, rest)
  | .u32, a :: b :: c :: d :: rest => some ((natOf16 a b * 65536 + natOf16 c d : Nat), rest)
  | _, _ => none

/-- The values a field of the form can carry. -/
def Form.fits (f : Form) (v : Int) : Bool :=
  match f with
  | .u8 => 0 ≤ v && v ≤ 255
  | .u16 => 0 ≤ v && v ≤ 65535
  | .i16 => -32768 ≤ v && v ≤ 32767
  | .u32 => 0 ≤ v && v ≤ 4294967295

/-- How many bytes a field takes. -/
def Form.size : Form → Nat
  | .u8 => 1
  | .u16 => 2
  | .i16 => 2
  | .u32 => 4

/-- The bytes of an entry: its fields in order. -/
def writeEntry : List Form → List Int → List Byte
  | f :: fs, v :: vs => f.write v ++ writeEntry fs vs
  | _, _ => []

/-- An entry read off the front of the bytes, with the bytes left. -/
def readEntry : List Form → List Byte → Option (List Int × List Byte)
  | [], bytes => some ([], bytes)
  | f :: fs, bytes =>
    match f.read bytes with
    | none => none
    | some (v, rest) =>
      match readEntry fs rest with
      | none => none
      | some (vs, rest') => some (v :: vs, rest')

/-- The whole entries that the bytes are, when they are a whole number of entries; the first argument
bounds the number of entries. -/
def readEntries (forms : List Form) : Nat → List Byte → Option (List (List Int))
  | _, [] => some []
  | 0, _ :: _ => none
  | n + 1, b :: bs =>
    match readEntry forms (b :: bs) with
    | none => none
    | some (e, rest) =>
      match readEntries forms n rest with
      | none => none
      | some es => some (e :: es)

end Sys2Proof.Machine
end

