-- ==== Sys2Proof/Machine/Tables.lean ====
section
/-! DEFINITION. The twenty-one tables (R194): the form, count and lock level of each, how TABLE CLOSE judges
it, and the typed reading of its entries. -/

namespace Sys2Proof.Machine

/-! ## Ids -/

def tMapA : TableId := 0
def tMapB : TableId := 1
/-- CURVE_0..CURVE_7 are tables 2..9. -/
def tCurve (i : Fin 8) : TableId := ⟨i.val + 2, by omega⟩
def tPointSet : TableId := 10
def tDriveMap : TableId := 11
def tInterlock : TableId := 12
def tTripSet : TableId := 13
def tCmpLimits : TableId := 14
def tPathLimits : TableId := 15
def tCmpTuning : TableId := 16
def tPathTuning : TableId := 17
def tDefrostSet : TableId := 18
def tDefrostTable : TableId := 19
def tDoorSet : TableId := 20

/-- The table of a point map. -/
def MapSel.table : MapSel → TableId
  | .a => tMapA
  | .b => tMapB

/-! ## The directory's fixed columns (R194) -/

/-- The entry count of a table. -/
def entryCount (t : TableId) : Nat :=
  match t.val with
  | 0 | 1 => 24
  | 10 => 16
  | 11 => 7
  | 14 | 16 => 3
  | 12 | 13 | 15 | 17 | 18 => 1
  | 19 => 6
  | 20 => 4
  | _ => 17

/-- The lock level of a table; a table of level none counts as 0. -/
def lockLevelOf (t : TableId) : Nat :=
  match t.val with
  | 11 | 12 | 13 => 2
  | 14 | 15 => 1
  | 16 | 17 | 18 | 19 | 20 => 0
  | _ => 3

/-- The forms of an entry's fields, in the order the owning rule lists them (R194). DESIGN CHOICE (log entry 40) where
section 10.1 gives a field no form: one byte for the point, curve and filter shift of a map entry and the fallback of
POINT_SET; two for the speed divider and the poll period of PATH_TUNING and the door weight of DEFROST_SET; a signed
16-bit number for the two differentials, the urgency threshold and the full-speed error of CMP_TUNING. -/
def tableForms (t : TableId) : List Form :=
  match t.val with
  | 0 | 1 => [.u8, .u8, .u8, .u8, .u8, .i16, .u8, .u8, .u8]
  | 10 => [.u8, .u16]
  | 11 => [.u8, .u8]
  | 12 => [.u16, .u16]
  | 13 => [.u8, .u8, .u8, .u8, .u8, .u16]
  | 14 => [.i16, .i16]
  | 15 => [.u16, .u16, .u16, .u16, .u16]
  | 16 => [.i16, .i16, .i16, .i16, .u16, .u16, .u16, .i16, .u16, .u16, .i16, .u16]
  | 17 => [.u16, .u16, .u16, .u16, .u16, .u16, .u16, .u16]
  | 18 => [.u32, .u16, .i16, .i16, .u16, .u16]
  | 19 => [.u8, .u16, .u32]
  | 20 => [.u16, .u16]
  | _ => [.u8, .u16, .i16]

/-- How many bytes an entry takes. -/
def entrySize (t : TableId) : Nat := ((tableForms t).map Form.size).sum

/-! ## Clamped tables -/

/-- What TABLE CLOSE does with a field of a clamped table. -/
inductive FieldRule where
  /-- Brought into lo..hi. -/
  | clamp (lo hi : Int)
  /-- A named value of two, coded 0 and 1: any other code becomes the default, code 0 (R163). -/
  | twoNames
  /-- A point 0..15, or none (255): any other value becomes none (R2). -/
  | pointOrNone
deriving DecidableEq, Repr

/-- `v` brought into lo..hi: lo if it is below lo, else hi if it is above hi. -/
def clampInt (lo hi v : Int) : Int := if v < lo then lo else if hi < v then hi else v

/-- `v` brought into lo..hi. -/
def clampNat (lo hi v : Nat) : Nat := if v < lo then lo else if hi < v then hi else v

/-- The field after the rule. -/
def FieldRule.apply : FieldRule → Int → Int
  | .clamp lo hi, v => clampInt lo hi v
  | .twoNames, v => if v = 0 ∨ v = 1 then v else 0
  | .pointOrNone, v => if 0 ≤ v ∧ v ≤ 15 then v else 255

/-- The field rules of a clamped table; none of a validated table. -/
def fieldRules (t : TableId) : List FieldRule :=
  match t.val with
  | 10 => [.pointOrNone, .clamp 2 60]
  | 12 => [.clamp 0 600, .clamp 60 900]
  | 13 => [.twoNames, .twoNames, .twoNames, .twoNames, .twoNames, .clamp 10 600]
  | 14 => [.clamp (-4000) 6000, .clamp (-4000) 6000]
  | 15 => [.clamp 1200 4500, .clamp 1200 4500, .clamp 60 900, .clamp 600 3600, .clamp 0 1800]
  | 16 => [.clamp 10 500, .clamp 10 500, .clamp 100 1000, .clamp 50 1000, .clamp 0 100,
      .clamp 60 3600, .clamp 60 3600, .clamp (-4000) 6000, .clamp 60 14400, .clamp 10 600,
      .clamp (-300) 0, .clamp 0 7200]
  | 17 => [.clamp 30 600, .clamp 300 3600, .clamp 5 60, .clamp 1200 4500, .clamp 50 1000,
      .clamp 1 8, .clamp 1200 4500, .clamp 250 5000]
  | 18 => [.clamp 3600 86400, .clamp 0 30, .clamp 0 3000, .clamp (-4000) 0, .clamp 60 1800,
      .clamp 0 43200]
  | 20 => [.clamp 0 30, .clamp 120 1800]
  | _ => []

/-- The second field raised to the first when it is below it: sp_max to sp_min (R45), S_max to S_min
(R75), max hold to min hold (R76). -/
def raiseSecond : List Int → List Int
  | a :: b :: rest => a :: (if b < a then a else b) :: rest
  | l => l

/-- An entry of a clamped table brought into its ranges. -/
def clampEntry (t : TableId) (e : List Int) : List Int :=
  let e' := List.zipWith FieldRule.apply (fieldRules t) e
  if t = tCmpLimits ∨ t = tPathLimits ∨ t = tPathTuning then raiseSecond e' else e'

/-- How many fields of two entries differ. -/
def fieldsChanged (old new : List Int) : Nat := (List.zipWith (fun a b => if a = b then 0 else 1) old new).sum

/-- How many fields of two tables' entries differ. -/
def entriesChanged (old new : List (List Int)) : Nat := (List.zipWith fieldsChanged old new).sum

/-! ## Typed entries -/

/-- The mark a byte stands for: 1 set, 0 clear (R188), anything else open (log entry 6). -/
def markOf (v : Int) : Bool := if v = 0 then false else if v = 1 then true else Config.oddMark (BitVec.ofInt 8 v)

/-- A point map entry (R27), its fields as loaded. -/
structure MapEntry where
  used : Bool
  node : Nat
  channel : Nat
  point : Nat
  curve : Nat
  trim : Int
  shift : Nat
  forward : Nat
  protect : Bool
deriving DecidableEq, Repr

/-- An entry of MAP_A or MAP_B. -/
def mapEntry : List Int → MapEntry
  | [u, n, c, p, k, t, s, f, i] =>
    ⟨markOf u, n.toNat, c.toNat, p.toNat, k.toNat, t, s.toNat, f.toNat, markOf i⟩
  | _ => ⟨false, 0, 0, 0, 0, 0, 0, 0, false⟩

/-- The used entries of a point map. -/
def usedEntries (t : Table) : List MapEntry := (t.entries.map mapEntry).filter (·.used)

/-- A knot of a curve (R3). -/
structure Knot where
  used : Bool
  count : Nat
  temp : Int
deriving DecidableEq, Repr

/-- An entry of a curve. -/
def knot : List Int → Knot
  | [u, c, t] => ⟨markOf u, c.toNat, t⟩
  | _ => ⟨false, 0, 0⟩

/-- The used knots of a curve. -/
def usedKnots (t : Table) : List Knot := (t.entries.map knot).filter (·.used)

/-- The entries of POINT_SET. -/
def pointSetting : List Int → PointSetting
  | [f, s] => ⟨if h : 0 ≤ f ∧ f ≤ 15 then some ⟨f.toNat, by omega⟩ else none, s.toNat⟩
  | _ => ⟨none, 10⟩

/-- The entry of INTERLOCK. -/
def interlockSet : List Int → InterlockSet
  | [a, b] => ⟨a.toNat, b.toNat⟩
  | _ => ⟨60, 300⟩

/-- The entry of TRIP_SET: OFF 0 and CLOSED 0, HOLD 1; auto-rearm ON 0, OFF 1. -/
def tripSetOf : List Int → TripSet
  | [a, b, c, d, e, f] => ⟨a = 1, b = 1, c = 1, d = 1, e = 0, f.toNat⟩
  | _ => ⟨false, false, false, false, true, 60⟩

/-- The entry of PATH_LIMITS. -/
def pathLimitsOf : List Int → PathLimits
  | [a, b, c, d, e] => ⟨a.toNat, b.toNat, c.toNat, d.toNat, e.toNat⟩
  | _ => ⟨1600, 4200, 300, 2400, 900⟩

/-- The entry of PATH_TUNING. -/
def pathTuningOf : List Int → PathTuning
  | [a, b, c, d, e, f, g, h] =>
    ⟨a.toNat, b.toNat, c.toNat, d.toNat, e.toNat, f.toNat, g.toNat, h.toNat⟩
  | _ => ⟨120, 1200, 15, 1800, 200, 1, 2400, 1000⟩

/-- An entry of CMP_TUNING. -/
def tuningOf (c : Comp) : List Int → Tuning
  | [a, b, u, f, p, on, off, wt, wd, dm, dOff, dd] =>
    ⟨a, b, u, f, p.toNat, on.toNat, off.toNat, wt, wd.toNat, dm.toNat, dOff, dd.toNat⟩
  | _ => .initial c

/-- The entry of DEFROST_SET. -/
def defrostSetOf : List Int → DefrostSet
  | [a, b, c, d, e, f] => ⟨a.toNat, b.toNat, c, d, e.toNat, f.toNat⟩
  | _ => ⟨28800, 10, 1000, -500, 300, 14400⟩

/-- The entries of DOOR_SET. -/
def doorSetting : List Int → DoorSetting
  | [a, b] => ⟨a.toNat, b.toNat⟩
  | _ => ⟨10, 300⟩

/-- An entry of DRIVE_MAP (R142). -/
def locationOf : List Int → Location
  | [a, b] => ⟨a.toNat, b.toNat⟩
  | _ => ⟨0, 0⟩

/-- A row of DEFROST_TABLE as loaded (R108). -/
structure IntervalEntry where
  used : Bool
  row : IntervalRow
deriving DecidableEq, Repr

/-- An entry of DEFROST_TABLE. -/
def intervalEntry : List Int → IntervalEntry
  | [u, h, n] => ⟨markOf u, ⟨h.toNat, n.toNat⟩⟩
  | _ => ⟨false, ⟨0, 0⟩⟩

/-- The fields of one entry of a table. -/
def Table.fields (t : Table) (i : Nat) : List Int := t.entries.getD i []

/-! ## Validated tables -/

/-- No value stands twice in the list. -/
def distinct {α : Type} [DecidableEq α] : List α → Bool
  | [] => true
  | a :: l => !l.contains a && distinct l

/-- The list is strictly ascending. -/
def ascending : List Nat → Bool
  | a :: b :: l => decide (a < b) && ascending (b :: l)
  | _ => true

/-- The set marks form a prefix: no set mark follows a clear one. -/
def marksPrefix : List Bool → Bool
  | [] => true
  | true :: l => marksPrefix l
  | false :: l => l.all (! ·)

/-- The door points are P6..P9. -/
def isDoorNumber (p : Nat) : Bool := decide (6 ≤ p) && decide (p ≤ 9)

/-- The fields of a used map entry lie in their ranges (R28). -/
def mapEntryOk (e : MapEntry) : Bool :=
  decide (2 ≤ e.node ∧ e.node ≤ 62 ∧ e.channel ≤ 7 ∧ e.point ≤ 15 ∧ -200 ≤ e.trim ∧ e.trim ≤ 200 ∧
    e.shift ≤ 4 ∧ e.forward ≤ 2) && (isDoorNumber e.point || decide (e.curve ≤ 7))

/-- A point map passes its close (R28). -/
def mapValid (t : Table) : Bool :=
  let u := usedEntries t
  u.all mapEntryOk && distinct (u.map fun e => (e.node, e.channel)) && distinct (u.map (·.point))

/-- A curve passes its close (R3). -/
def curveValid (t : Table) : Bool :=
  let u := usedKnots t
  marksPrefix ((t.entries.map knot).map (·.used)) && decide (2 ≤ u.length) &&
    ascending (u.map (·.count)) &&
    u.all fun k => decide (k.count ≤ 4095 ∧ -4000 ≤ k.temp ∧ k.temp ≤ 6000)

/-- DRIVE_MAP passes its close (R142). -/
def driveMapValid (t : Table) : Bool :=
  let l := t.entries.map locationOf
  l.all (fun x => decide (2 ≤ x.node ∧ x.node ≤ 62 ∧ x.channel ≤ 7)) && distinct l

/-- The used rows of the interval table. -/
def usedRows (t : Table) : List IntervalRow :=
  ((t.entries.map intervalEntry).filter (·.used)).map (·.row)

/-- The interval table passes its close (R108). -/
def intervalsValid (t : Table) : Bool :=
  let u := usedRows t
  marksPrefix ((t.entries.map intervalEntry).map (·.used)) &&
    u.all (fun r => decide (r.heatLimit ≤ 3600 ∧ 3600 ≤ r.interval ∧ r.interval ≤ 86400)) &&
    ascending (u.map (·.heatLimit))

/-- A table of the validated kind (R197). -/
def isValidated (t : TableId) : Bool := decide (t.val ≤ 9) || decide (t = tDriveMap) || decide (t = tDefrostTable)

/-- A validated table passes its close. -/
def tablePasses (id : TableId) (t : Table) : Bool :=
  if id.val ≤ 1 then mapValid t
  else if id.val ≤ 9 then curveValid t
  else if id = tDriveMap then driveMapValid t
  else if id = tDefrostTable then intervalsValid t
  else true

/-- The table after its close (R197): a validated table VALID or INVALID and unchanged, a clamped table
VALID with every field in its range. -/
def closeTable (id : TableId) (t : Table) : Table :=
  if isValidated id then { t with state := if tablePasses id t then .valid else .invalid }
  else ⟨.valid, t.entries.map (clampEntry id)⟩

end Sys2Proof.Machine
end

