-- ==== Sys2Proof/Machine/Operands.lean ====
section
/-! DEFINITION. The operand forms of the requests: which numbers name a compartment, point, table, kind or
target, and the codes by which replies name them (R188, R190). -/

namespace Sys2Proof.Machine

/-! ## Codes to names -/

/-- A compartment number: FF 0, CD 1, FZ 2 (spec/03). -/
def compOf (b : Byte) : Option Comp :=
  match b.toNat with
  | 0 => some .ff
  | 1 => some .cd
  | 2 => some .fz
  | _ => none

/-- A point number 0..15. -/
def pointOf (b : Byte) : Option PointId := if h : b.toNat < 16 then some ⟨b.toNat, h⟩ else none

/-- A table id 0..20. -/
def tableOf (b : Byte) : Option TableId := if h : b.toNat < 21 then some ⟨b.toNat, h⟩ else none

/-- An override kind: ABSOLUTE 0, OFFSET 1 (R49). -/
def kindOf (b : Byte) : Option OverrideKind :=
  match b.toNat with
  | 0 => some .absolute
  | 1 => some .offset
  | _ => none

/-- A SWAP MAP target: A 0, B 1 (R39). -/
def mapOf (b : Byte) : Option MapSel :=
  match b.toNat with
  | 0 => some .a
  | 1 => some .b
  | _ => none

/-- A SET MODE target (R193), with the codes R188 gives. -/
inductive ModeTarget where
  | mode (m : Mode)
  | release
deriving DecidableEq, Repr

/-- BYPASS 0, REGULATE 1, SERVICE 2, SHOWROOM 3, RELEASE 4. -/
def targetOf (b : Byte) : Option ModeTarget :=
  match b.toNat with
  | 0 => some (.mode .bypass)
  | 1 => some (.mode .regulate)
  | 2 => some (.mode .service)
  | 3 => some (.mode .showroom)
  | 4 => some .release
  | _ => none

/-- A set of flags (R188). The four bits above row 11 name no flag: a set that has one of them is a value
the request cannot carry (log entry 9). -/
def flagsOf (h : Half) : Option (BitVec 12) := if h.toNat < 4096 then some (h.setWidth 12) else none

/-! ## Names to codes: the place in the list of the owning rule (R188) -/

def compCode : Comp → Nat
  | .ff => 0
  | .cd => 1
  | .fz => 2

def roleCode : Role → Nat
  | .comp => 0
  | .valve => 1
  | .heater => 2
  | .fanFF => 3
  | .fanFZ => 4
  | .fanCond => 5
  | .damperCD => 6

def Mode.code : Mode → Nat
  | .bypass => 0
  | .regulate => 1
  | .service => 2
  | .showroom => 3

def Origin.code : Origin → Nat
  | .bypass => 0
  | .regulate => 1

def PointState.code : PointState → Nat
  | .unseen => 0
  | .fresh => 1
  | .stale => 2
  | .faulty => 3

def MapSel.code : MapSel → Nat
  | .a => 0
  | .b => 1

def TableState.code : TableState → Nat
  | .valid => 0
  | .invalid => 1
  | .loading => 2

def OverrideKind.code : OverrideKind → Nat
  | .absolute => 0
  | .offset => 1

def OverrideOrigin.code : OverrideOrigin → Nat
  | .controller => 0
  | .door => 1

def OverrideTag.code : OverrideTag → Nat
  | .live => 0
  | .spent => 1

def Demand.code : Demand → Nat
  | .waiting => 0
  | .idle => 1
  | .calling => 2
  | .blindCall => 3
  | .blindRest => 4

def Warm.code : Warm → Nat
  | .clear => 0
  | .counting => 1
  | .paused => 2
  | .alarmed => 3

def PathState.code : PathState → Nat
  | .off => 0
  | .switch => 1
  | .run => 2
  | .defrost => 3
  | .tripped => 4
  | .service => 5
  | .parked => 6

def Claimant.code : Claimant → Nat
  | .ff => 0
  | .fz => 1
  | .df => 2

/-- VALVE FF 0, FZ 1 (R188). -/
def Valve.code : Valve → Nat
  | .ff => 0
  | .fz => 1

/-- The valve position a VALVE value stands for. -/
def valveOf (n : Nat) : Valve := if n = 0 then .ff else .fz

def Phase.code : Phase → Nat
  | .idle => 0
  | .due => 1
  | .prep => 2
  | .heat => 3
  | .hold => 4
  | .drip => 5
  | .recover => 6

def EndCause.code : EndCause → Nat
  | .terminated => 0
  | .timedOut => 1
  | .abortedTrip => 2
  | .abortedMode => 3

def WidthLevel.code : WidthLevel → Nat
  | .openLevel => 0
  | .lost => 1

def TripState.code : TripState → Nat
  | .normal => 0
  | .tripped => 1
  | .lockout => 2

def Cause.code : Cause → Nat
  | .driveFault => 0
  | .driveSilent => 1
  | .hostTrip => 2

def TripEnd.code : TripEnd → Nat
  | .auto => 0
  | .rearm => 1
  | .warmRestart => 2

/-! ## Request names and reply statuses (R190) -/

/-- The name codes of the requests. -/
def codeIdentify : Byte := 1
def codeQuery : Byte := 2
def codeSetMode : Byte := 3
def codeSetLock : Byte := 4
def codeWarmRestart : Byte := 5
def codeTableOpen : Byte := 6
def codeTableData : Byte := 7
def codeTableClose : Byte := 8
def codeTableAbort : Byte := 9
def codeTableRead : Byte := 10
def codeSwapMap : Byte := 11
def codeSetSetpoint : Byte := 12
def codePushOverride : Byte := 13
def codePopOverride : Byte := 14
def codeClearOverrides : Byte := 15
def codeInjectSample : Byte := 16
def codeDefrostStart : Byte := 17
def codeDefrostHold : Byte := 18
def codeDefrostResume : Byte := 19
def codeLoadShed : Byte := 20
def codeTrip : Byte := 21
def codeRearm : Byte := 22
def codeClearFaults : Byte := 23
def codeSetAttentionMask : Byte := 24
def codeDoorRead : Byte := 25
def codeRelay : Byte := 64

/-- The statuses of a REPLY. -/
inductive Status where
  | ok | clamped | busy | locked | mode | invalid | inUse | protectedPoint | full | empty | notHeld
  | budget | range | noAnswer | unknown
deriving DecidableEq, Repr

/-- The code of a status. -/
def Status.code : Status → Byte
  | .ok => 0
  | .clamped => 1
  | .busy => 2
  | .locked => 3
  | .mode => 4
  | .invalid => 5
  | .inUse => 6
  | .protectedPoint => 7
  | .full => 8
  | .empty => 9
  | .notHeld => 10
  | .budget => 11
  | .range => 12
  | .noAnswer => 13
  | .unknown => 14

/-- The statuses under which a request was carried out. -/
def Status.accepted (s : Status) : Bool := s = .ok || s = .clamped

end Sys2Proof.Machine
end

