-- ==== Sys2Proof/Decode.lean ====
section
/-! DEFINITION. From received bytes to commands and back (R178, R188 to R191): which command a frame received
on MRX or CRX is, and the frames that spell the commands of the main link. Below them the reading of the
opcode table's words: the table gives no row any bits. -/

namespace Sys2Proof

/-! ## Argument forms (R190) -/

/-- A request without arguments. -/
def argsNone : List Byte → Args Unit
  | [] => .form ()
  | _ => .illFormed

/-- One argument of one byte. -/
def argsByte : List Byte → Args Byte
  | [b] => .form b
  | _ => .illFormed

/-- One argument of two bytes, high byte first. -/
def argsHalf : List Byte → Args Half
  | [hi, lo] => .form (Machine.halfOf hi lo)
  | _ => .illFormed

/-- Subject, item and page. -/
def argsQuery : List Byte → Args QueryArgs
  | [a, b, c] => .form ⟨a, b, c⟩
  | _ => .illFormed

/-- Table id and start index. -/
def argsOpen : List Byte → Args TableOpenArgs
  | [a, b] => .form ⟨a, b⟩
  | _ => .illFormed

/-- Table id and the bytes of entries. -/
def argsData : List Byte → Args TableDataArgs
  | a :: rest => .form ⟨a, rest⟩
  | [] => .illFormed

/-- Table id, start index and number of entries. -/
def argsRead : List Byte → Args TableReadArgs
  | [a, b, c] => .form ⟨a, b, c⟩
  | _ => .illFormed

/-- Compartment and temperature. -/
def argsSetpoint : List Byte → Args SetpointArgs
  | [c, hi, lo] => .form ⟨c, Machine.halfOf hi lo⟩
  | _ => .illFormed

/-- Compartment, kind, value and duration. -/
def argsPush : List Byte → Args PushArgs
  | [c, k, vh, vl, dh, dl] => .form ⟨c, k, Machine.halfOf vh vl, Machine.halfOf dh dl⟩
  | _ => .illFormed

/-- Point and raw count. -/
def argsInject : List Byte → Args InjectArgs
  | [p, hi, lo] => .form ⟨p, Machine.halfOf hi lo⟩
  | _ => .illFormed

/-! ## Received frames -/

/-- The request that a name code and argument bytes are (R190, R191). -/
def requestOf (code : Byte) (args : List Byte) : Instr :=
  match code.toNat with
  | 1 => .identify (argsNone args)
  | 2 => .query (argsQuery args)
  | 3 => .setMode (argsByte args)
  | 4 => .setLock (argsByte args)
  | 5 => .warmRestart (argsNone args)
  | 6 => .tableOpen (argsOpen args)
  | 7 => .tableData (argsData args)
  | 8 => .tableClose (argsByte args)
  | 9 => .tableAbort (argsByte args)
  | 10 => .tableRead (argsRead args)
  | 11 => .swapMap (argsByte args)
  | 12 => .setSetpoint (argsSetpoint args)
  | 13 => .pushOverride (argsPush args)
  | 14 => .popOverride (argsByte args)
  | 15 => .clearOverrides (argsByte args)
  | 16 => .injectSample (argsInject args)
  | 17 => .defrostStart (argsNone args)
  | 18 => .defrostHold (argsNone args)
  | 19 => .defrostResume (argsNone args)
  | 20 => .loadShed (argsByte args)
  | 21 => .trip (argsNone args)
  | 22 => .rearm (argsNone args)
  | 23 => .clearFaults (argsHalf args)
  | 24 => .setAttentionMask (argsHalf args)
  | 25 => .doorRead (argsNone args)
  | _ => .unknownRequest code

/-- A frame with a good check and length that R189 discards. -/
def discards (f : Frame) : Bool :=
  decide (f.src ≠ 0 ∨ f.dst = 0 ∨ 62 < f.dst.toNat ∨ (f.dst = 1 ∧ f.kind ≠ Machine.kindRequest) ∨
    (f.kind = Machine.kindRequest ∧ f.payload = []))

/-- The command that a frame with a good check and length is on MRX (R189). -/
def mainFrame (f : Frame) : Instr :=
  if discards f then .mainFrameDiscard
  else if f.dst = 1 then
    match f.payload with
    | [] => .mainFrameDiscard
    | code :: args => requestOf code args
  else .relayFrame f

/-- The command that bytes received on MRX are, up to the gap that ends the frame. -/
def mainBytes (bytes : List Byte) : Instr :=
  match Machine.frameOfBytes bytes with
  | some f => mainFrame f
  | none => .mainFrameDiscard

/-- The command that bytes received on CRX are (R177, R178). -/
def cabinetBytes (bytes : List Byte) : Instr :=
  match Machine.frameOfBytes bytes with
  | some f => .cabinetReply f
  | none => .cabinetFrameDiscard

/-! ## Frames that spell commands -/

/-- A two-byte field, high byte first. -/
def halfBytes (h : Half) : List Byte := [h.extractLsb' 8 8, h.setWidth 8]

/-- The frame of a request. -/
def requestFrame (code : Byte) (args : List Byte) : Frame := ⟨1, 0, Machine.kindRequest, code :: args⟩

/-- The frame that spells a command of the main link; none for arguments that are not of the request's
form, which many frames spell, and for commands that are no frame. -/
def frameOf : Instr → Option Frame
  | .identify (.form _) => some (requestFrame 1 [])
  | .query (.form a) => some (requestFrame 2 [a.subject, a.item, a.page])
  | .setMode (.form a) => some (requestFrame 3 [a])
  | .setLock (.form a) => some (requestFrame 4 [a])
  | .warmRestart (.form _) => some (requestFrame 5 [])
  | .tableOpen (.form a) => some (requestFrame 6 [a.table, a.start])
  | .tableData (.form a) => some (requestFrame 7 (a.table :: a.bytes))
  | .tableClose (.form a) => some (requestFrame 8 [a])
  | .tableAbort (.form a) => some (requestFrame 9 [a])
  | .tableRead (.form a) => some (requestFrame 10 [a.table, a.start, a.count])
  | .swapMap (.form a) => some (requestFrame 11 [a])
  | .setSetpoint (.form a) => some (requestFrame 12 (a.comp :: halfBytes a.value))
  | .pushOverride (.form a) =>
    some (requestFrame 13 (a.comp :: a.kind :: (halfBytes a.value ++ halfBytes a.duration)))
  | .popOverride (.form a) => some (requestFrame 14 [a])
  | .clearOverrides (.form a) => some (requestFrame 15 [a])
  | .injectSample (.form a) => some (requestFrame 16 (a.point :: halfBytes a.count))
  | .defrostStart (.form _) => some (requestFrame 17 [])
  | .defrostHold (.form _) => some (requestFrame 18 [])
  | .defrostResume (.form _) => some (requestFrame 19 [])
  | .loadShed (.form a) => some (requestFrame 20 [a])
  | .trip (.form _) => some (requestFrame 21 [])
  | .rearm (.form _) => some (requestFrame 22 [])
  | .clearFaults (.form a) => some (requestFrame 23 (halfBytes a))
  | .setAttentionMask (.form a) => some (requestFrame 24 (halfBytes a))
  | .doorRead (.form _) => some (requestFrame 25 [])
  | .unknownRequest code => some (requestFrame code [])
  | .relayFrame f => some f
  | _ => none

/-! ## The opcode table's words -/

/-- The command that a word spells by the table's bits. The table gives no row any bits. -/
def decodeTableWord (_nbits _w : Nat) : Option Instr := none

end Sys2Proof
end

