-- ==== Sys2Proof/Machine/Flags.lean ====
section
/-! DEFINITION. The twelve fault flags, their details, the attention mask and the attention indication
(R201, R202), and the clearing of flags with their level conditions. -/

namespace Sys2Proof.Machine

/-- The fault flags in the order of the table of R201. -/
inductive Flag where
  | sensor | blind | stack | warm | defrostLong | doorAjar | trip | lockout | drive | damper | drop | load
deriving DecidableEq, Repr

/-- The row of a flag, its place in a set of flags (R188). -/
def Flag.row : Flag → Nat
  | .sensor => 0
  | .blind => 1
  | .stack => 2
  | .warm => 3
  | .defrostLong => 4
  | .doorAjar => 5
  | .trip => 6
  | .lockout => 7
  | .drive => 8
  | .damper => 9
  | .drop => 10
  | .load => 11

/-- The set that holds one flag. -/
def Flag.bit (f : Flag) : BitVec 12 := BitVec.twoPow 12 f.row

/-- A flag is set. -/
def Part.hasFlag (p : Part) (f : Flag) : Bool := p.flags.getLsbD f.row

/-- A raise sets the flag (R202). -/
def Part.raise (p : Part) (f : Flag) : Part := { p with flags := p.flags ||| f.bit }

/-- The attention indication (R202): some flag is set and not in the mask. -/
def Part.attention (p : Part) : Bool := decide (p.flags &&& ~~~p.mask ≠ 0)

/-! ## Raises with their details -/

/-- SENSOR is raised for a point (R25). -/
def Part.raiseSensor (p : Part) (i : PointId) : Part :=
  { p.raise .sensor with details.sensor := p.details.sensor.set i true }

/-- BLIND is raised for a compartment (R68). -/
def Part.raiseBlind (p : Part) (c : Comp) : Part :=
  { p.raise .blind with details.blind := p.details.blind.set c true }

/-- STACK is raised with (compartment, overflow) (R51). -/
def Part.raiseOverflow (p : Part) (c : Comp) : Part :=
  { p.raise .stack with details.overflow := p.details.overflow.set c true }

/-- STACK is raised with (compartment, underflow) (R52). -/
def Part.raiseUnderflow (p : Part) (c : Comp) : Part :=
  { p.raise .stack with details.underflow := p.details.underflow.set c true }

/-- WARM is raised for a compartment (R67). -/
def Part.raiseWarm (p : Part) (c : Comp) : Part :=
  { p.raise .warm with details.warm := p.details.warm.set c true }

/-- DEFROST_LONG is raised: its count rises by one, saturating at 255 (R124). -/
def Part.raiseDefrostLong (p : Part) : Part :=
  { p.raise .defrostLong with details.defrostLong := min 255 (p.details.defrostLong + 1) }

/-- DOOR_AJAR is raised for a door (R135). -/
def Part.raiseAjar (p : Part) (d : DoorId) : Part :=
  { p.raise .doorAjar with details.ajar := p.details.ajar.set d true }

/-- A set of causes with one cause added, standing once (R162). -/
def Causes.add (s : Causes) : Cause → Causes
  | .driveFault => { s with driveFault := true }
  | .driveSilent => { s with driveSilent := true }
  | .hostTrip => { s with hostTrip := true }

/-- TRIP is raised with a cause (R173). -/
def Part.raiseTrip (p : Part) (c : Cause) : Part :=
  { p.raise .trip with details.trip := p.details.trip.add c }

/-- DRIVE is raised for a role (R158). -/
def Part.raiseDrive (p : Part) (r : Role) : Part :=
  { p.raise .drive with details.drive := p.details.drive.set r true }

/-- DROP is raised with READINGS in its detail (R192). -/
def Part.dropReadings (p : Part) : Part := { p.raise .drop with details.drop.readings := true }

/-- DROP is raised with REPLY in its detail (R192). -/
def Part.dropReply (p : Part) : Part := { p.raise .drop with details.drop.reply := true }

/-- DROP is raised with RELAY in its detail (R182). -/
def Part.dropRelay (p : Part) : Part := { p.raise .drop with details.drop.relay := true }

/-- LOAD is raised for a table (R198). -/
def Part.raiseLoad (p : Part) (t : TableId) : Part :=
  { p.raise .load with details.load := p.details.load.set t true }

/-! ## Clearing (R202) -/

/-- The compartments whose air point is LOST (R68). -/
def Part.blindLevel (p : Part) : Comps Bool := p.comps.mapWith fun _ r => r.lost

/-- The compartments whose warm alarm is ALARMED (R67). -/
def Part.warmLevel (p : Part) : Comps Bool := p.comps.mapWith fun _ r => decide (r.warm = .alarmed)

/-- The doors that have their ajar mark set (R136). -/
def Part.ajarLevel (p : Part) : Doors Bool := p.doors.mapWith fun _ r => r.ajarMark

/-- The roles other than COMP whose last status has a fault indication (R158). -/
def Part.driveLevel (p : Part) : Roles Bool :=
  p.slots.mapWith fun r s => decide (r ≠ .comp) && (match s.status with | some x => x.fault | none => false)

/-- The causes that TRIP takes again at its clear: the cause set while a trip stands (R173). -/
def Part.tripLevel (p : Part) : Causes := if p.trip.state = .normal then .empty else p.trip.causes

/-- The flag's level condition holds, so that a clear sets it again at once (R201, last column). -/
def Part.level (p : Part) : Flag → Bool
  | .blind => p.blindLevel.ff || p.blindLevel.cd || p.blindLevel.fz
  | .warm => p.warmLevel.ff || p.warmLevel.cd || p.warmLevel.fz
  | .doorAjar => p.ajarLevel.ffL || p.ajarLevel.ffR || p.ajarLevel.cd || p.ajarLevel.fz
  | .trip => decide (p.trip.state ≠ .normal)
  | .lockout => decide (p.trip.state = .lockout)
  | .drive => p.driveLevel.valve || p.driveLevel.heater || p.driveLevel.fanFF || p.driveLevel.fanFZ ||
      p.driveLevel.fanCond || p.driveLevel.damperCD
  | _ => false

/-- The set of flags whose level condition holds. -/
def Part.levelFlags (p : Part) : BitVec 12 :=
  [Flag.blind, .warm, .doorAjar, .trip, .lockout, .drive].foldl
    (fun acc f => if p.level f then acc ||| f.bit else acc) 0

/-- CLEAR FAULTS of a set of flags (R202): each named flag is cleared with its detail emptied, and set
again at once with the detail its owning rule gives when its level condition holds. -/
def Part.clearFlags (p : Part) (named : BitVec 12) : Part :=
  let has (f : Flag) : Bool := named.getLsbD f.row
  let d := p.details
  { p with
    flags := (p.flags &&& ~~~named) ||| (named &&& p.levelFlags)
    details :=
      { sensor := if has .sensor then Vector.replicate 16 false else d.sensor
        blind := if has .blind then p.blindLevel else d.blind
        overflow := if has .stack then ⟨false, false, false⟩ else d.overflow
        underflow := if has .stack then ⟨false, false, false⟩ else d.underflow
        warm := if has .warm then p.warmLevel else d.warm
        defrostLong := if has .defrostLong then 0 else d.defrostLong
        ajar := if has .doorAjar then p.ajarLevel else d.ajar
        trip := if has .trip then p.tripLevel else d.trip
        drive := if has .drive then p.driveLevel else d.drive
        drop := if has .drop then ⟨false, false, false⟩ else d.drop
        load := if has .load then Vector.replicate 21 false else d.load } }

end Sys2Proof.Machine
end

