-- ==== Sys2Proof/Machine/Ops.lean ====
section
/-! DEFINITION. The operations every block shares: elapsed seconds, the tables, the egress queue (R192), the
last-refusal record (R203) and the handling of a request (R191). -/

namespace Sys2Proof.Machine

/-! ## Seconds (R204) -/

/-- The seconds elapsed since a recorded second, modulo 2^32. -/
def Part.elapsed (p : Part) (since : Second) : Nat := (p.seconds - since).toNat

/-- Sampling and regulation go on: REGULATE and SERVICE. -/
def Part.active (p : Part) : Bool := p.mode = .regulate || p.mode = .service

/-- The mode is REGULATE or SERVICE, or SHOWROOM entered from REGULATE: polls go out (R181) and the
door timers run (R138). -/
def Part.polls (p : Part) : Bool :=
  p.active || (p.mode = .showroom && p.origin = some .regulate)

/-! ## Tables -/

/-- A table of the directory. -/
def Part.table (p : Part) (t : TableId) : Table := p.tables[t]

/-- A table replaced. -/
def Part.setTable (p : Part) (t : TableId) (x : Table) : Part := { p with tables := p.tables.set t x }

/-- The used entries of the active map (R29). -/
def Part.activeEntries (p : Part) : List MapEntry := usedEntries (p.table p.activeMap.table)

/-- The used entry of the active map that targets a point (R28: at most one). -/
def Part.entryFor (p : Part) (i : PointId) : Option MapEntry :=
  p.activeEntries.find? fun e => e.point = i.val

/-- A used entry of the active map targets the point (R25). -/
def Part.targeted (p : Part) (i : PointId) : Bool := (p.entryFor i).isSome

/-! ## Records inside the part -/

/-- A point record. -/
def Part.point (p : Part) (i : PointId) : Point := p.points[i]

/-- A point record replaced. -/
def Part.setPoint (p : Part) (i : PointId) (x : Point) : Part := { p with points := p.points.set i x }

/-- A compartment record. -/
def Part.comp (p : Part) (c : Comp) : CompRec := p.comps.get c

/-- A door record. -/
def Part.door (p : Part) (d : DoorId) : DoorRec := p.doors.get d

/-- A door record replaced. -/
def Part.setDoor (p : Part) (d : DoorId) (x : DoorRec) : Part := { p with doors := p.doors.set d x }

/-- A role slot. -/
def Part.slot (p : Part) (r : Role) : Slot := p.slots.get r

/-- A role slot replaced. -/
def Part.setSlot (p : Part) (r : Role) (x : Slot) : Part := { p with slots := p.slots.set r x }

/-! ## Open choices of order (log entry 5) -/

/-- Two hand-offs made in an order the spec leaves open: the next free value decides. -/
def Part.inEitherOrder (p : Part) (f g : Part → Part) : Part :=
  let q := { p with choices := p.choices + 1 }
  if Config.secondFirst p.choices then f (g q) else g (f q)

/-! ## The main egress queue (R192) -/

/-- The most frames the egress queue and the relay queue hold. -/
def queueLimit : Nat := 8

/-- The queue without its oldest READINGS frame, when it holds one. -/
def evictReadings : List Egress → Option (List Egress)
  | [] => none
  | e :: es =>
    if e.sort = .readings then some es
    else match evictReadings es with
      | none => none
      | some es' => some (e :: es')

/-- A REPLY or relayed reply would find a place. -/
def Part.hasPlace (p : Part) : Bool :=
  decide (p.egress.length < queueLimit) || (evictReadings p.egress).isSome

/-- A REPLY or relayed reply is placed at the tail, the oldest READINGS frame making room when the queue
is full; with no room it is discarded and DROP is raised. -/
def Part.placeReply (p : Part) (e : Egress) : Part :=
  if p.egress.length < queueLimit then { p with egress := p.egress ++ [e] }
  else match evictReadings p.egress with
    | some q => { p with egress := q ++ [e] }
    | none => p.dropReply

/-- A READINGS frame is placed at the tail, or discarded with DROP raised when the queue is full. -/
def Part.placeReadings (p : Part) (f : Frame) : Part :=
  if p.egress.length < queueLimit then { p with egress := p.egress ++ [⟨.readings, f⟩] }
  else p.dropReadings

/-- The most bytes of data a REPLY has (R188). -/
def replyRoom : Nat := 37

/-- A REPLY of the part to the appliance controller (R188), its attention as the frame is placed. -/
def Part.replyFrame (p : Part) (code : Byte) (s : Status) (data : List Byte) : Frame :=
  ⟨0, 1, kindReply, code :: s.code :: (markByte p.attention ++ data)⟩

/-- A REPLY is formed and placed. -/
def Part.reply (p : Part) (code : Byte) (s : Status) (data : List Byte) : Part :=
  p.placeReply ⟨.reply, p.replyFrame code s data⟩

/-! ## The last refusal (R203) -/

/-- A refusal overwrites the record and raises its count, saturating at 65 535. -/
def Part.recordRefusal (p : Part) (code dest : Byte) (s : Status) : Part :=
  { p with
    refusal := some ⟨code, 0, dest, s.code, p.seconds⟩
    refusals := min 65535 (p.refusals + 1) }

/-! ## Requests (R191) -/

/-- What the owning block makes of a request: the part after it, the status and the reply's data. -/
structure Answer where
  part : Part
  status : Status
  data : List Byte
deriving DecidableEq, Repr

/-- The request is refused with a status; nothing changes and the reply carries no data. -/
def Part.refuse (p : Part) (s : Status) : Answer := ⟨p, s, []⟩

/-- The request is carried out with OK. -/
def Part.accept (p : Part) (data : List Byte) : Answer := ⟨p, .ok, data⟩

/-- A compartment argument outside 0..2 is refused with RANGE. -/
def Part.withComp (p : Part) (b : Byte) (k : Comp → Answer) : Answer :=
  match compOf b with
  | none => p.refuse .range
  | some c => k c

/-- The common checks (R191) and then the request's own: in SHOWROOM every request that is not exempt is
refused with MODE, and arguments not of the request's form are refused with RANGE. -/
def Part.judge {α : Type} (p : Part) (exempt : Bool) (a : Args α) (act : α → Part → Answer) : Answer :=
  if p.mode = .showroom ∧ exempt = false then p.refuse .mode
  else match a with
    | .illFormed => p.refuse .range
    | .form x => act x p

/-- An answer becomes a REPLY, and a refusal an entry of the last-refusal record. -/
def Answer.finish (r : Answer) (code : Byte) : Part :=
  (if r.status.accepted then r.part else r.part.recordRefusal code 1 r.status).reply code r.status r.data

/-- A request (R191): discarded while a restart is pending (R206); discarded with DROP raised when its
REPLY could have no place; otherwise judged and answered. `dress` adds what every reply of the request
carries, refused or not. -/
def Part.request {α : Type} (p : Part) (code : Byte) (exempt : Bool) (a : Args α)
    (act : α → Part → Answer) (dress : Answer → Answer := id) : Part :=
  if p.restartPending then p
  else if p.hasPlace = false then p.dropReply
  else (dress (p.judge exempt a act)).finish code

end Sys2Proof.Machine
end

