-- ==== Sys2Proof/Machine/Interlock.lean ====
section
/-! DEFINITION. The role slots and the output interlock (spec/07, R141 to R145, R151 to R154): what each slot
lets out, when it offers itself, and what a value sent does to the interlock record. -/

namespace Sys2Proof.Machine

/-! ## The interlock record (R151) -/

/-- The COMP value sent, none counting as 0. -/
def Part.compSent (p : Part) : Nat := p.slots.comp.sent.getD 0

/-- The HEATER value sent is on; none counts as off. -/
def Part.heaterOn (p : Part) : Bool := p.slots.heater.sent.getD 0 ≠ 0

/-- COMP has been 0 for `s` seconds. -/
def Part.compOffFor (p : Part) (s : Nat) : Bool :=
  match p.compStop with
  | none => false
  | some t => decide (s ≤ p.elapsed t)

/-- HEATER has been off for `s` seconds. -/
def Part.heaterOffFor (p : Part) (s : Nat) : Bool :=
  match p.heaterOff with
  | none => false
  | some t => decide (s ≤ p.elapsed t)

/-- A speed clamped into [S_min, S_max] as they stand. -/
def Part.intoLimits (p : Part) (v : Nat) : Nat := clampNat p.pathLimits.sMin p.pathLimits.sMax v

/-- The valve-change speed clamped into [S_min, S_max] (R76). -/
def Part.changeSpeed (p : Part) : Nat := p.intoLimits p.pathTuning.changeSpeed

/-! ## Screening -/

/-- A non-zero COMP value is permitted (R152). -/
def Part.compPermitted (p : Part) : Bool :=
  !p.heaterOn &&
    (decide (p.compSent ≠ 0) ||
      (p.compOffFor p.pathLimits.restartInhibit && p.heaterOffFor p.interlock.tDrip))

/-- The COMP value let out (R152). -/
def Part.screenComp (p : Part) (v : Nat) : Nat :=
  if v = 0 then 0 else if p.compPermitted then p.intoLimits v else 0

/-- HEATER on is permitted (R153). -/
def Part.heaterPermitted (p : Part) : Bool := decide (p.compSent = 0) && p.compOffFor p.interlock.tPre

/-- The HEATER value let out (R153). -/
def Part.screenHeater (p : Part) (v : Nat) : Nat := if v = 0 then 0 else if p.heaterPermitted then v else 0

/-- A change of the VALVE value is permitted (R154). The valve-change speed is that of the PATH_TUNING in force, also during
a switch that began at an older one: a new speed takes effect at the arbiter at the next switch start (R76), and at this
test at the close, where the slots are screened again (R143). DEDUCED (log entry 42). -/
def Part.valvePermitted (p : Part) : Bool := decide (p.compSent = 0 ∨ p.compSent = p.changeSpeed)

/-- The VALVE value let out: the value itself, or the value sent, or none (R154). -/
def Part.screenValve (p : Part) (v : Nat) : Option Nat :=
  if p.slots.valve.sent = some v ∨ p.valvePermitted = true then some v else p.slots.valve.sent

/-- The value that the interlock lets out for a role (R151). -/
def Part.screen (p : Part) (r : Role) (v : Nat) : Option Nat :=
  match r with
  | .comp => some (p.screenComp v)
  | .heater => some (p.screenHeater v)
  | .valve => p.screenValve v
  | _ => some v

/-- The changed mark decided again (R144): the value let out differs from the value sent, or the
location has moved. A slot that lets out none is not marked changed (R154). -/
def Slot.decide (s : Slot) (out : Option Nat) : Slot :=
  { s with outgoing := out, changed := out.isSome && (s.moved || !(out == s.sent)) }

/-- Every slot is screened again (R151). -/
def Part.screenAll (p : Part) : Part :=
  { p with slots := p.slots.mapWith fun r s => s.decide (p.screen r s.requested) }

/-! ## Requests into slots -/

/-- A source other than the trip unit asks for a value: kept out while the slot's trip mark is set
(R160). -/
def Part.ask (p : Part) (r : Role) (v : Nat) : Part :=
  if (p.slot r).tripMark then p else p.setSlot r { p.slot r with requested := v }

/-- Own drive frames go out (R144). -/
def Part.ownFrames (p : Part) : Bool := p.driveMap.isSome && decide (p.mode ≠ .bypass)

/-- A slot offers itself to the cabinet scheduler (R144). -/
def Part.offers (p : Part) (r : Role) : Bool :=
  p.ownFrames && ((p.slot r).changed || (p.slot r).due) && (p.slot r).outgoing.isSome

/-- The roles in the order of their numbers. -/
def allRoles : List Role := [.comp, .valve, .heater, .fanFF, .fanFZ, .fanCond, .damperCD]

/-- The offering slot of lowest role number (R180). -/
def Part.offering (p : Part) : Option Role := allRoles.find? p.offers

/-! ## The drive map (R142) -/

/-- The role that a (node, channel) is the location of. -/
def Part.roleAt (p : Part) (node channel : Nat) : Option Role :=
  match p.driveMap with
  | none => none
  | some m => allRoles.find? fun r => (m.get r).node = node ∧ (m.get r).channel = channel

/-- The channel and value of a DRIVE payload; only a payload of 3 bytes carries them (R155). -/
def drivePayload : List Byte → Option (Nat × Nat)
  | [c, hi, lo] => some (c.toNat, natOf16 hi lo)
  | _ => none

/-- The owned role that a relay frame is addressed to, with the value it carries (R155). -/
def Part.ownedRole (p : Part) (f : Frame) : Option (Role × Nat) :=
  if f.kind = kindDrive then
    match drivePayload f.payload with
    | none => none
    | some (c, v) =>
      match p.roleAt f.dst.toNat c with
      | none => none
      | some r => some (r, v)
  else none

/-- A DRIVE frame of the part or, with source 0, of the appliance controller (R188). -/
def driveFrame (src : Byte) (node channel v : Nat) : Frame :=
  ⟨BitVec.ofNat 8 node, src, kindDrive, u8 channel ++ u16 v⟩

/-! ## A value goes out (R145, R151, R156) -/

/-- The compressor stop second after a COMP value goes out. -/
def Part.clockComp (p : Part) (v : Nat) : Part :=
  if v ≠ 0 then { p with compStop := none }
  else if p.compSent ≠ 0 then { p with compStop := some p.seconds }
  else p

/-- The heater off second after a HEATER value goes out. -/
def Part.clockHeater (p : Part) (v : Nat) : Part :=
  if v ≠ 0 then { p with heaterOff := none }
  else if p.heaterOn then { p with heaterOff := some p.seconds }
  else p

/-- A DAMPER_CD value that differs from the previous sent value loads a DEVIATING monitor's timer again
(R159). -/
def Part.damperMoves (p : Part) (v : Nat) : Part :=
  if p.slots.damperCD.sent ≠ some v ∧ p.damper = .deviating then { p with deviation := .running 30 } else p

/-- The interlock clocks and the damper monitor take the value before the record does. -/
def Part.clockValue (p : Part) (r : Role) (v : Nat) : Part :=
  match r with
  | .comp => p.clockComp v
  | .heater => p.clockHeater v
  | .damperCD => p.damperMoves v
  | _ => p

/-- A value has gone out to a role's location, from a slot or a relayed frame: it becomes the sent
value. -/
def Part.recordSent (p : Part) (r : Role) (v : Nat) : Part :=
  let q := p.clockValue r v
  q.setSlot r { q.slot r with sent := some v }

/-- The slot itself has been sent: its marks are cleared and its refresh timer is started (R145). -/
def Part.slotSent (p : Part) (r : Role) : Part :=
  p.setSlot r { p.slot r with moved := false, changed := false, due := false, refresh := .running 2 }

end Sys2Proof.Machine
end

