-- ==== Sys2Proof/Machine/Drive.lean ====
section
/-! DEFINITION. The drive unit's own rules (spec/07, R146 to R150), the treatment of relayed drive frames
(R155 to R157), the damper monitor (R159) and the safe values of a trip (R160). -/

namespace Sys2Proof.Machine

/-! ## What the other blocks hand the drive unit -/

/-- FF_STOP holds (R134). -/
def Part.ffStop (p : Part) : Bool := p.doors.ffL.stopActive || p.doors.ffR.stopActive

/-- CD_STOP holds (R134). -/
def Part.cdStop (p : Part) : Bool := p.doors.cd.stopActive

/-- FZ_STOP holds (R134). -/
def Part.fzStop (p : Part) : Bool := p.doors.fz.stopActive

/-- The path is in RUN with this holder and its run started. -/
def Part.runs (p : Part) (k : Claimant) : Bool :=
  decide (p.path.state = .run) && decide (p.path.holder = some k) && p.path.runStarted

/-- The value a point offers its consumers now. -/
def Part.value (p : Part) (i : PointId) : Option Int := (p.point i).resolved.map (·.value)

/-- "Calling" is CALLING or BLIND_CALL (section 3.5). -/
def Demand.isCalling (d : Demand) : Bool := d = .calling || d = .blindCall

/-! ## Fan, damper and condenser rules -/

/-- FAN_FF (R147). -/
def Part.fanFFRule (p : Part) : Nat :=
  if p.ffStop then 0 else if p.runs .ff || decide (p.offCycle ≠ .stopped) then p.comps.ff.tuning.fan else 0

/-- FAN_FZ (R148). -/
def Part.fanFZRule (p : Part) : Nat :=
  if p.runs .fz && decide (p.defrost.phase ≠ .recover) && !p.fzStop then p.comps.fz.tuning.fan else 0

/-- DAMPER_CD (R149). -/
def Part.damperRule (p : Part) : Nat :=
  if p.comps.cd.demand.isCalling && p.runs .fz && !p.cdStop then 100 else 0

/-- FAN_COND (R150): AMBIENT is P5. -/
def Part.fanCondRule (p : Part) : Nat :=
  if p.compSent = 0 then 0
  else match p.value 5 with
    | some t => if t < 2500 then 60 else 100
    | none => 100

/-- The asks of REGULATE (R141, R146): path arbiter, defrost sequencer and the rules. -/
def Part.regulateAsks (p : Part) : Role → Nat
  | .comp => p.path.speed
  | .valve => p.path.valve.code
  | .heater => if p.defrost.heater then 1 else 0
  | .fanFF => p.fanFFRule
  | .fanFZ => p.fanFZRule
  | .fanCond => p.fanCondRule
  | .damperCD => p.damperRule

/-- In REGULATE every slot without a trip mark takes what its source asks now; in the other modes the
requests stand as they are (R146). -/
def Part.placeAsks (p : Part) : Part :=
  if p.mode = .regulate then
    { p with slots := p.slots.mapWith fun r s =>
        if s.tripMark then s else { s with requested := p.regulateAsks r } }
  else p

/-! ## The FF off-cycle (R147) -/

/-- The off-cycle begins, and ends at once when FF_COIL (P3) is already at or above 1.00 °C. -/
def Part.beginOffCycle (p : Part) : Part :=
  match p.value 3 with
  | some t => { p with offCycle := if 100 ≤ t then .stopped else .running 600 }
  | none => { p with offCycle := .running 600 }

/-- FF stops being a holder whose run had started. -/
def Part.leaveFF (p : Part) : Part := if p.runs .ff then p.beginOffCycle else p

/-- A new resolved value of FF_COIL. -/
def Part.takeFFCoil (p : Part) (t : Int) : Part := if 100 ≤ t then { p with offCycle := .stopped } else p

/-! ## Changes of mode (R146) -/

/-- The requests that SERVICE and SHOWROOM begin with: COMP 0, HEATER off, fans and damper 0, VALVE
kept. -/
def Part.restRequests (p : Part) : Part :=
  ((((((p.ask .comp 0).ask .heater 0).ask .fanFF 0).ask .fanFZ 0).ask .fanCond 0).ask .damperCD 0)

/-! ## Trips at the slots (R160) -/

/-- A fan or the damper at its safe state: the value last sent when HOLD, else 0 (R163). -/
def holdOrZero (hold : Bool) (s : Slot) : Nat := if hold then s.sent.getD 0 else 0

/-- The safe value of a role. -/
def Part.safeValue (p : Part) (r : Role) : Nat :=
  match r with
  | .comp => 0
  | .heater => 0
  | .valve => p.slots.valve.sent.getD p.slots.valve.requested
  | .fanFF => holdOrZero p.tripSet.holdFF p.slots.fanFF
  | .fanFZ => holdOrZero p.tripSet.holdFZ p.slots.fanFZ
  | .fanCond => holdOrZero p.tripSet.holdCond p.slots.fanCond
  | .damperCD => holdOrZero p.tripSet.holdDamper p.slots.damperCD

/-- A trip at the slots: every trip mark set and every safe value placed. -/
def Part.tripSlots (p : Part) : Part :=
  { p with slots := p.slots.mapWith fun r s => { s with tripMark := true, requested := p.safeValue r } }

/-- The end of a trip at the slots: the marks are cleared; in SHOWROOM the slots take the SHOWROOM
values, in REGULATE their sources' asks follow (`Part.placeAsks`), elsewhere they keep the safe values
(R172). -/
def Part.untripSlots (p : Part) : Part :=
  let q := { p with slots := p.slots.mapWith fun _ s => { s with tripMark := false } }
  if p.mode = .showroom then q.restRequests else q

/-! ## Relayed drive frames (R155, R156, R157, R168) -/

/-- HEATER and VALVE take the codes 0 and 1 only. -/
def badCode (r : Role) (v : Nat) : Bool := (r = .heater || r = .valve) && decide (1 < v)

/-- A standing trip substitutes 0 for a non-zero COMP value and off for HEATER on (R168). -/
def Part.tripSubstitute (p : Part) (r : Role) (v : Nat) : Nat :=
  if p.trip.state ≠ .normal ∧ (r = .comp ∨ r = .heater) then 0 else v

/-- The value a relayed frame to an owned role carries in BYPASS (R156): for a VALVE frame whose value
let out is none, the value as requested. -/
def Part.relayValue (p : Part) (r : Role) (v : Nat) : Nat :=
  let w := p.tripSubstitute r v
  (p.screen r w).getD w

/-- The value an absorbed frame stores (R157). -/
def Part.absorbValue (p : Part) (r : Role) (v : Nat) : Nat :=
  match r with
  | .comp => if v = 0 then 0 else p.intoLimits v
  | .valve => v
  | .heater => v
  | _ => clampNat 0 100 v

/-- An absorbed frame (R157): refused with RANGE or BUSY, or stored as the slot's request. The reply's own
data gives the role, the stored value and the value let out, both in two bytes for every role as a DRIVE payload has
them, which is the model's choice (log entry 7). -/
def Part.absorb (p : Part) (r : Role) (v : Nat) : Answer :=
  if badCode r v then p.refuse .range
  else if (p.slot r).tripMark then p.refuse .busy
  else
    let w := p.absorbValue r v
    let q := p.setSlot r { p.slot r with requested := w }
    ⟨q, if w = v then .ok else .clamped, u8 (roleCode r) ++ u16 w ++ optU16 (q.screen r w)⟩

/-! ## The damper monitor (R159) -/

/-- The magnitude of a difference of two values. -/
def distance (a b : Nat) : Nat := (a - b) + (b - a)

/-- A DAMPER_CD status is compared with the sent value. -/
def Part.watchDamper (p : Part) (measured : Nat) : Part :=
  if distance measured (p.slots.damperCD.sent.getD 0) ≤ 10 then
    { p with damper := .watching, deviation := .stopped }
  else if p.damper = .watching then { p with damper := .deviating, deviation := .running 30 }
  else p

end Sys2Proof.Machine
end

