-- ==== Sys2Proof/Machine/Arbiter.lean ====
section
/-! DEFINITION. The path arbiter (spec/04): claim records and keys, the grant queue, grant, switch, run start,
release and displacement, the compressor speed, and trips and changes of mode at the path. -/

namespace Sys2Proof.Machine

/-! ## Reading the path record -/

/-- The class of the holder's claim now (R73, R86). -/
def PathRec.holderClass (r : PathRec) : Option Nat := r.holder.map fun k => (r.claims.get k).cls

/-- The path state takes claims into the queue (R77). -/
def PathState.takes : PathState → Bool
  | .off | .switch | .run | .defrost => true
  | _ => false

/-- The ceiling of the compressor speed (R95). -/
def Part.ceiling (p : Part) : Nat :=
  if p.path.shed then p.intoLimits p.pathTuning.shedCeiling else p.pathLimits.sMax

/-- The valve position that serves a holder. -/
def Claimant.valve : Claimant → Valve
  | .ff => .ff
  | _ => .fz

/-- The place of a claimant in the order of R78: its class, and within class 1 its urgent-since key,
within class 2 its arrival key. -/
def Claims.rank (cl : Claims) (k : Claimant) : Nat × Nat :=
  let c := cl.get k
  (c.cls, if c.cls = 1 then c.urgentSince else if c.cls = 2 then c.arrival else 0)

/-- One place stands before another. -/
def rankBefore (a b : Nat × Nat) : Bool := decide (a.1 < b.1) || (a.1 == b.1 && decide (a.2 < b.2))

/-- The claimant inserted at the place that R78 gives it. -/
def insertClaimant (cl : Claims) (k : Claimant) : List Claimant → List Claimant
  | [] => [k]
  | q :: qs => if rankBefore (cl.rank k) (cl.rank q) then k :: q :: qs else q :: insertClaimant cl k qs

/-! ## Small steps -/

/-- The arbiter places a speed request; a non-zero one becomes the previous speed (R93). -/
def Part.placeSpeed (p : Part) (v : Nat) : Part :=
  { p with path.speed := v, path.prevSpeed := if v = 0 then p.path.prevSpeed else some v }

/-- The claimant takes a new place in the queue with new keys: a join or a rejoin (R79, R91). -/
def Part.enqueue (p : Part) (k : Claimant) : Part :=
  let key := p.path.nextKey
  let cl := p.path.claims.set k { p.path.claims.get k with arrival := key, urgentSince := key }
  { p with path.claims := cl, path.nextKey := key + 1, path.queue := insertClaimant cl k p.path.queue }

/-- The valve position becomes the last VALVE value sent, or is kept when none has been sent (R99,
R101). -/
def Part.adoptValve (p : Part) : Part :=
  match p.slots.valve.sent with
  | some v => { p with path.valve := valveOf v }
  | none => p

/-- The holder becomes none, its marks are cleared and every timer stops. -/
def Part.dropHolder (p : Part) : Part :=
  { p with
    path.holder := none
    path.runStarted := false
    path.satisfied := false
    path.switchTimer := .stopped
    path.minHold := .stopped
    path.maxHold := .stopped }

/-! ## Grant, switch and run (R81 to R85) -/

/-- The grant of DF handed to the defrost sequencer: in DUE with the DF claim raised the phase goes to
PREP (R114). -/
def Part.enterPrep (p : Part) : Part :=
  if p.defrost.phase = .due ∧ p.defrost.dfClaim = true then
    { p with
      defrost.phase := .prep
      defrost.heatTime := 0
      defrost.budget := p.pathLimits.holdBudget
      defrost.budgetLoaded := p.pathLimits.holdBudget
      defrost.heater := true }
  else p

/-- The holder's run starts (R84); a run of FF ends the FF off-cycle (R147). -/
def Part.startRun (p : Part) : Part :=
  { p with
    path.runStarted := true
    path.minHold := .running p.pathTuning.minHold
    path.maxHold := .running p.pathTuning.maxHold
    path.divider := 0
    offCycle := if p.path.holder = some .ff then .stopped else p.offCycle }

/-- The path enters RUN at S_min; the run starts at once when the compressor is running (R84). -/
def Part.enterRun (p : Part) : Part :=
  let q := ({ p with path.state := .run, path.switchTimer := .stopped }).placeSpeed p.pathLimits.sMin
  if p.compSent ≠ 0 then q.startRun else q

/-- A switch starts (R82). -/
def Part.startSwitch (p : Part) (v : Valve) : Part :=
  ({ p with
      path.state := .switch
      path.valve := v
      path.switchTimer := .running p.pathTuning.changeTime }).placeSpeed
    (if p.compSent = 0 then 0 else p.changeSpeed)

/-- A claimant taken out of the queue becomes the holder (R81). -/
def Part.grant (p : Part) (k : Claimant) (rest : List Claimant) : Part :=
  let q := { p.dropHolder with path.queue := rest, path.holder := some k, path.divider := 0 }
  match k with
  | .df => (({ q with path.state := .defrost }).placeSpeed 0).enterPrep
  | _ => if p.path.valve = k.valve then q.enterRun else q.startSwitch k.valve

/-- The head of the queue is granted (R81); with an empty queue nothing is. -/
def Part.grantHead (p : Part) : Part :=
  match p.path.queue with
  | [] => p
  | k :: rest => p.grant k rest

/-! ## Release and displacement (R86, R91) -/

/-- The holder releases the path (R91). -/
def Part.release (p : Part) : Part :=
  match p.path.holder with
  | none => p
  | some k =>
    let q := p.leaveFF.dropHolder
    let q := if (p.path.claims.get k).raised then q.enqueue k else q
    match q.path.queue with
    | [] => ({ q with path.state := .off }).placeSpeed 0
    | h :: rest => q.grant h rest

/-- An unstarted holder gives way to the head and returns to the queue with its keys (R86). -/
def Part.displace (p : Part) : Part :=
  match p.path.holder, p.path.queue with
  | some k, h :: rest => p.grant h (insertClaimant p.path.claims k rest)
  | _, _ => p

/-- Whether the holder has to give way, tested after each join and each class change in RUN (R86, R89,
R90). -/
def Part.giveWay (p : Part) : Part :=
  if p.path.state = .run then
    match p.path.queue, p.path.holderClass with
    | h :: _, some mine =>
      let first := (p.path.claims.get h).cls
      if p.path.runStarted = false then (if first < mine then p.displace else p)
      else if p.path.minHold = .expired ∧ first ≤ 1 then p.release
      else if p.path.maxHold = .expired ∧ first ≤ mine then p.release
      else p
    | _, _ => p
  else p

/-- The holder's claim is withdrawn (R85, R87, R88). During a switch it waits for the completion
(R83). -/
def Part.withdrawHolder (p : Part) : Part :=
  match p.path.state with
  | .defrost => p.release
  | .run =>
    if p.path.runStarted = false then p.release
    else if p.path.minHold = .expired then p.release
    else ({ p with path.satisfied := true }).placeSpeed p.pathLimits.sMin
  | _ => p

/-! ## Claims (R74, R79, R80) -/

/-- The claim record after a hand-off: a rise of class from 2 to 1 sets the urgent-since key. -/
def Claim.after (c : Claim) (raised : Bool) (cls key : Nat) : Claim :=
  { c with
    raised := raised
    cls := cls
    urgentSince := if cls = 1 ∧ c.cls = 2 then key else c.urgentSince }

/-- A hand-off for a claimant: its record is updated in every path state, and in the states that take
claims the holder or the queue takes the change. -/
def Part.handClaim (p : Part) (k : Claimant) (raised : Bool) (cls : Nat) : Part :=
  let old := p.path.claims.get k
  if old.raised = raised ∧ old.cls = cls then p
  else
    let q := { p with
      path.claims := p.path.claims.set k (old.after raised cls p.path.nextKey)
      path.nextKey := p.path.nextKey + 1 }
    if p.path.state.takes = false then q
    else if p.path.holder = some k then
      if old.raised = true ∧ raised = false then q.withdrawHolder
      else if raised = true then ({ q with path.satisfied := false }).giveWay
      else q
    else if raised = true then
      if old.raised = true then
        ({ q with path.queue := insertClaimant q.path.claims k (q.path.queue.erase k) }).giveWay
      else
        let j := q.enqueue k
        if p.path.state = .off then j.grantHead else j.giveWay
    else { q with path.queue := q.path.queue.erase k }

/-- FF follows the FF claim of the compartment unit (R74). -/
def Part.handFF (p : Part) (raised urgent : Bool) : Part :=
  p.handClaim .ff raised (if urgent then 1 else 2)

/-- FZ follows its two sources (R74). -/
def Part.handFZSources (p : Part) : Part :=
  p.handClaim .fz (p.path.fzRaised || p.path.recover)
    (if p.path.recover || p.path.fzUrgent then 1 else 2)

/-- The compartment FZ claim. -/
def Part.handFZ (p : Part) (raised urgent : Bool) : Part :=
  ({ p with path.fzRaised := raised, path.fzUrgent := urgent }).handFZSources

/-- The recover claim of the defrost sequencer. -/
def Part.handRecover (p : Part) (raised : Bool) : Part :=
  ({ p with path.recover := raised }).handFZSources

/-- The DF claim of the defrost sequencer: always class 0. -/
def Part.handDF (p : Part) (raised : Bool) : Part := p.handClaim .df raised 0

/-! ## Timers and reports -/

/-- The switch timer expires (R83). -/
def Part.completeSwitch (p : Part) : Part :=
  if p.path.state = .switch ∧ p.path.switchTimer.due = true then
    match p.path.holder with
    | none => p
    | some k =>
      if (p.path.claims.get k).raised = false then p.release
      else match p.path.queue with
        | h :: _ =>
          if (p.path.claims.get h).cls < (p.path.claims.get k).cls then p.displace else p.enterRun
        | [] => p.enterRun
  else p

/-- The minimum-hold timer expires (R88, R89). -/
def Part.expireMinHold (p : Part) : Part :=
  if p.path.state = .run ∧ p.path.minHold.due = true then
    let q := { p with path.minHold := .expired }
    if p.path.satisfied then q.release else q.giveWay
  else p

/-- The maximum-hold timer expires (R90). -/
def Part.expireMaxHold (p : Part) : Part :=
  if p.path.state = .run ∧ p.path.maxHold.due = true then
    ({ p with path.maxHold := .expired }).giveWay
  else p

/-- The drive unit reports a COMP value sent (R84). -/
def Part.reportComp (p : Part) (v : Nat) : Part :=
  if p.path.state = .run ∧ p.path.runStarted = false ∧ v ≠ 0 then p.startRun else p

/-! ## Compressor speed (R94 to R98) -/

/-- Resolved air value less effective setpoint, when there is an air value (R44). -/
def CompRec.error (r : CompRec) : Option Int := r.air.map (· - r.effective)

/-- The path error and full-speed error of a compartment that is CALLING. -/
def CompRec.callError (r : CompRec) : Int × Int := (r.error.getD 0, r.tuning.eFull)

/-- The path error and full-speed error of a compartment that is BLIND_CALL: E_full ÷ 2, truncated. -/
def CompRec.blindError (r : CompRec) : Int × Int := (r.tuning.eFull.tdiv 2, r.tuning.eFull)

/-- The driving compartment of the FF path (R94). -/
def Part.drivingFF (p : Part) : Option (Int × Int) :=
  match p.comps.ff.demand with
  | .calling => some p.comps.ff.callError
  | .blindCall => some p.comps.ff.blindError
  | _ => none

/-- The driving compartment of the FZ path (R94): of CALLING compartments the one with the largest
error, FZ when equal; with none CALLING a blind one, FZ before CD. -/
def Part.drivingFZ (p : Part) : Option (Int × Int) :=
  let fz := p.comps.fz
  let cd := p.comps.cd
  if fz.demand = .calling then
    if cd.demand = .calling ∧ fz.callError.1 < cd.callError.1 then some cd.callError
    else some fz.callError
  else if cd.demand = .calling then some cd.callError
  else if fz.demand = .blindCall then some fz.blindError
  else if cd.demand = .blindCall then some cd.blindError
  else none

/-- The path error and full-speed error of the held path (R94). -/
def Part.driving (p : Part) : Option (Int × Int) :=
  match p.path.holder with
  | some .ff => p.drivingFF
  | some .fz => p.drivingFZ
  | _ => none

/-- The target of R95. -/
def speedTarget (sMin sMax : Nat) : Option (Int × Int) → Nat
  | none => sMin
  | some (e, full) => sMin + ((sMax - sMin) * (min (max e 0) full).toNat) / full.toNat

/-- The new request of a speed computation (R95): the slew clamp and then the ceiling clamp. -/
def Part.nextSpeed (p : Part) : Nat :=
  let target := speedTarget p.pathLimits.sMin p.pathLimits.sMax p.driving
  let prev := p.path.prevSpeed.getD p.pathLimits.sMin
  clampNat p.pathLimits.sMin p.ceiling
    (clampNat (prev - p.pathTuning.slew) (prev + p.pathTuning.slew) target)

/-- A counted value: the divider count rises, and a computation is made when it reaches the speed divider
(R96). -/
def Part.countValue (p : Part) : Part :=
  if p.pathTuning.speedDivider ≤ p.path.divider + 1 then
    ({ p with path.divider := 0 }).placeSpeed p.nextSpeed
  else { p with path.divider := p.path.divider + 1 }

/-- The compartment whose air point the holder's counted values come from (R96). -/
def Claimant.airComp : Claimant → Option Comp
  | .ff => some .ff
  | .fz => some .fz
  | .df => none

/-- The holder's run is started and its air point is that of the compartment. -/
def Part.countsFor (p : Part) (c : Comp) : Bool :=
  decide (p.path.state = .run) && p.path.runStarted && decide (p.path.holder.bind Claimant.airComp = some c)

/-- The compartment unit passes a new resolved value of a compartment's air point (R96). -/
def Part.passValue (p : Part) (c : Comp) : Part := if p.countsFor c then p.countValue else p

/-- A second counts as a value while the holder's air point is LOST (R96). -/
def Part.countBlindSecond (p : Part) : Part :=
  match p.path.holder.bind Claimant.airComp with
  | some c => if p.countsFor c && (p.comp c).lost then p.countValue else p
  | none => p

/-- The shed mark is set or cleared (R97): a request above the ceiling is lowered to it at once. -/
def Part.setShed (p : Part) (b : Bool) : Part :=
  let q := { p with path.shed := b }
  if b = true ∧ p.path.state = .run ∧ p.path.runStarted = true ∧ q.ceiling < p.path.speed then
    q.placeSpeed q.ceiling
  else q

/-- A close of PATH_LIMITS or PATH_TUNING at the speed request (R98). -/
def Part.refitSpeed (p : Part) : Part :=
  match p.path.state with
  | .run =>
    if p.path.runStarted = false ∨ p.path.satisfied = true then
      if p.path.speed = p.pathLimits.sMin then p else p.placeSpeed p.pathLimits.sMin
    else if p.path.speed < p.pathLimits.sMin ∨ p.ceiling < p.path.speed then
      p.placeSpeed (clampNat p.pathLimits.sMin p.ceiling p.path.speed)
    else p
  | .switch =>
    if p.path.speed = 0 ∨ p.intoLimits p.path.speed = p.path.speed then p
    else p.placeSpeed (p.intoLimits p.path.speed)
  | _ => p

/-! ## Trip, rearm and change of mode (R99 to R103) -/

/-- The path loses its holder, its queue and its speed request, and takes the valve position last sent. -/
def Part.clearPath (p : Part) (next : PathState) : Part :=
  (({ p.dropHolder with path.queue := [], path.state := next }).placeSpeed 0).adoptValve

/-- A trip at the arbiter (R99); an FF run that it ends begins the FF off-cycle (R147). -/
def Part.tripPath (p : Part) : Part :=
  match p.path.state with
  | .parked => p
  | .tripped => p
  | _ => p.leaveFF.clearPath .tripped

/-- Every raised claimant joins in the order DF, FZ, FF (R101). -/
def Part.joinRaised (p : Part) : Part :=
  [Claimant.df, .fz, .ff].foldl
    (fun q k => if (q.path.claims.get k).raised then q.enqueue k else q) p

/-- The take-up at an entry to OFF (R101). -/
def Part.takeUp (p : Part) : Part :=
  (((({ p.dropHolder with path.queue := [], path.state := .off }).placeSpeed 0).adoptValve).joinRaised).grantHead

/-- The end of a trip at the arbiter (R100). -/
def Part.untripPath (p : Part) : Part :=
  if p.path.state = .tripped then
    if p.mode = .regulate then p.takeUp else { p with path.state := .service }
  else p

/-- The path state of a mode other than REGULATE (R77). -/
def Part.idleState (p : Part) : PathState :=
  match p.mode with
  | .service => if p.trip.state = .normal then .service else .tripped
  | _ => .parked

/-- The mode has left REGULATE (R102); the 0 that the arbiter places goes into the COMP slot. The FF
off-cycle ends (R147). -/
def Part.leaveRegulate (p : Part) : Part :=
  ({ p.clearPath p.idleState with offCycle := .stopped }).ask .comp 0

/-- The mode has entered REGULATE (R103). With a trip standing the path goes to TRIPPED and the recorded valve position
is kept: R103 is silent on it, section 4.2 has it as last sent and R73 as last requested. That is the model's choice
(log entry 36); the take-up at the end of the trip adopts the value last sent. -/
def Part.enterRegulate (p : Part) : Part :=
  if p.trip.state = .normal then p.takeUp else { p with path.state := .tripped }

end Sys2Proof.Machine
end

