-- ==== Sys2Proof/Machine/Compartments.lean ====
section
/-! DEFINITION. The compartment unit (spec/03): override stacks and the effective setpoint, demand, urgency and
blind cycling, the warm alarm, deferred tuning, and the two claims handed to the path arbiter. -/

namespace Sys2Proof.Machine

/-! ## The override stack (R49 to R56); the list's head is the top entry -/

/-- The most entries a stack holds. -/
def stackLimit : Nat := 4

/-- One entry on the running value of R56: SPENT entries are passed over. -/
def Override.act (o : Override) (v : Int) : Int :=
  match o.tag, o.kind with
  | .spent, _ => v
  | .live, .absolute => o.value
  | .live, .offset => v + o.value

/-- The running value after the LIVE entries from bottom to top (R56). -/
def runningValue (base : Int) (stack : List Override) : Int := stack.foldr Override.act base

/-- The effective setpoint: the running value clamped into the limits (R56). -/
def CompRec.effectiveOf (r : CompRec) : Int := clampInt r.spMin r.spMax (runningValue r.base r.stack)

/-- SPENT entries are removed from the top (R52). -/
def trim : List Override → List Override
  | [] => []
  | o :: rest => if o.tag = .spent then trim rest else o :: rest

/-- One second of an entry: a LIVE entry with a duration counts down (R53). -/
def Override.tick (o : Override) : Override :=
  if o.tag = .live ∧ o.duration ≠ 0 then { o with remaining := o.remaining - 1 } else o

/-- The entry's remaining time has reached 0 and its expiry waits to be taken (R53). -/
def Override.due (o : Override) : Bool := decide (o.tag = .live ∧ o.duration ≠ 0 ∧ o.remaining = 0)

/-- The expiry of the entry in a slot counted from the bottom: it becomes SPENT in its place. -/
def spendSlot (stack : List Override) (slot : Nat) : List Override :=
  (stack.reverse.modify slot fun o => { o with tag := .spent }).reverse

/-- A new entry, LIVE, with its whole duration remaining (R50). -/
def newOverride (k : OverrideKind) (v : Int) (d : Nat) (o : OverrideOrigin) : Override :=
  ⟨k, v, d, d, o, .live⟩

/-- A LIVE entry of origin DOOR (R55). -/
def Override.liveDoor (o : Override) : Bool := decide (o.origin = .door ∧ o.tag = .live)

/-- A LIVE DOOR entry refreshed: duration and remaining time both set to the carried duration (R55). -/
def Override.refreshDoor (o : Override) (d : Nat) : Override :=
  if o.liveDoor then { o with duration := d, remaining := d } else o

/-! ## The warm alarm (R66, R67) -/

/-- A COUNTING alarm at or past the delay goes to ALARMED. -/
def CompRec.expireWarm (r : CompRec) : CompRec :=
  if r.warm = .counting ∧ r.tuning.warmDelay ≤ r.warmCount then { r with warm := .alarmed } else r

/-- The alarm on a new resolved air value (R66). A PAUSED alarm that returns to COUNTING with its count
at or above the delay expires at once (R67). -/
def CompRec.warmValue (r : CompRec) (v : Int) : CompRec :=
  if r.tuning.warmTemp ≤ v then
    match r.warm with
    | .clear => { r with warm := .counting, warmCount := 0 }
    | .paused => ({ r with warm := .counting }).expireWarm
    | _ => r
  else { r with warm := .clear, warmCount := 0 }

/-- The alarm on an announcement of no resolved value (R66). -/
def CompRec.warmNone (r : CompRec) : CompRec :=
  if r.warm = .counting then { r with warm := .paused } else r

/-- The alarm compared with a tuning that has become the in-force tuning (R67). -/
def CompRec.warmRetune (r : CompRec) : CompRec :=
  let q : CompRec := match r.air with
    | none => r
    | some v =>
      if r.tuning.warmTemp ≤ v then
        if r.warm = .clear then { r with warm := .counting, warmCount := 0 } else r
      else if r.warm = .clear then r else { r with warm := .clear, warmCount := 0 }
  q.expireWarm

/-! ## Demand (R58 to R63) and deferred tuning (R69, R70) -/

/-- A pending tuning becomes the in-force tuning, and the warm alarm is compared with it (R69, R70). -/
def CompRec.applyPending (r : CompRec) : CompRec :=
  match r.pending with
  | none => r
  | some t => ({ r with tuning := t, pending := none }).warmRetune

/-- The demand changes; a change out of calling applies a pending tuning (R69), and the urgent mark is
cleared on every change out of CALLING (R63). -/
def CompRec.goTo (r : CompRec) (d : Demand) (urgent : Bool) : CompRec :=
  let q := { r with demand := d, urgent := urgent }
  if r.demand.isCalling ∧ d.isCalling = false then q.applyPending else q

/-- The demand evaluated from IDLE or from CALLING (R58), the urgent mark with it (R63). -/
def CompRec.evaluate (r : CompRec) (fromCalling : Bool) : CompRec :=
  match r.error with
  | none => r
  | some e =>
    let calls := if fromCalling then decide (¬ e ≤ -r.tuning.dOut) else decide (r.tuning.dIn ≤ e)
    r.goTo (if calls then .calling else .idle) (calls && decide (r.tuning.eUrg ≤ e))

/-- Evaluated from its present state when it is IDLE or CALLING (R59). -/
def CompRec.reevaluate (r : CompRec) : CompRec :=
  match r.demand with
  | .idle => r.evaluate false
  | .calling => r.evaluate true
  | _ => r

/-- A blind call begins (R60, R61, R65). -/
def CompRec.blindCall (r : CompRec) : CompRec :=
  let q := r.goTo .blindCall false
  { q with blind := .running q.tuning.blindOn }

/-- A blind rest begins: a pending tuning is applied before the timer is loaded (R61, R70). -/
def CompRec.blindRest (r : CompRec) : CompRec :=
  let q := r.goTo .blindRest false
  { q with blind := .running q.tuning.blindOff }

/-- The blind timer stops and the demand leaves the blind cycle (R62). -/
def CompRec.stopBlind (r : CompRec) : CompRec := { r with blind := .stopped }

/-- How a LOST mark changed with a resolution (R21). -/
inductive LostChange where
  | same | begins | ends
deriving DecidableEq, Repr

/-- What the point unit announces of a point (R18). -/
inductive Ann where
  | nothing
  | value (v : Int)
  | noValue
deriving DecidableEq, Repr

/-- The stored air value and LOST mark follow an announcement (R44, R65). -/
def CompRec.follow (r : CompRec) (a : Ann) (l : LostChange) : CompRec :=
  { r with
    air := match a with
      | .nothing => r.air
      | .value v => some v
      | .noValue => none
    lost := match l with
      | .same => r.lost
      | .begins => true
      | .ends => false }

/-- The warm alarm on an announcement in REGULATE or SERVICE (R66). -/
def CompRec.warmAnn (r : CompRec) (a : Ann) : CompRec :=
  match a with
  | .value v => r.warmValue v
  | .noValue => r.warmNone
  | .nothing => r

/-- The demand on an announcement in REGULATE or SERVICE (R59, R60, R62), after the stored air value, the LOST mark and
the warm alarm have followed it. -/
def CompRec.takeAnn (r : CompRec) (a : Ann) (l : LostChange) : CompRec :=
  match a, l with
  | .value _, .ends => r.stopBlind.evaluate false
  | .value _, _ =>
    match r.demand with
    | .waiting => r.evaluate false
    | _ => r.reevaluate
  | _, .begins => r.blindCall
  | _, .ends => r.stopBlind.goTo .waiting false
  | .noValue, .same =>
    match r.demand with
    | .idle | .calling => r.goTo .waiting false
    | _ => r
  | .nothing, .same => r

/-! ## Records in the part -/

/-- A compartment record replaced; an alarm that goes to ALARMED raises WARM (R67). -/
def Part.setComp (p : Part) (c : Comp) (r : CompRec) : Part :=
  let q := { p with comps := p.comps.set c r }
  if r.warm = .alarmed ∧ (p.comp c).warm ≠ .alarmed then q.raiseWarm c else q

/-- A change of record applied in REGULATE and SERVICE, where demand is evaluated (section 3.5). -/
def CompRec.inActive (r : CompRec) (active : Bool) (f : CompRec → CompRec) : CompRec :=
  if active then f r else r

/-! ## Claims (R64) -/

/-- The FF claim is raised. -/
def Part.ffClaim (p : Part) : Bool := p.comps.ff.demand.isCalling

/-- The compartment FZ claim is raised. -/
def Part.fzClaim (p : Part) : Bool := p.comps.fz.demand.isCalling || p.comps.cd.demand.isCalling

/-- The compartment FZ claim is urgent. -/
def Part.fzClaimUrgent (p : Part) : Bool := p.comps.fz.urgent || p.comps.cd.urgent

/-- The FF claim as it stands is handed to the arbiter. -/
def Part.handFFClaim (p : Part) : Part := p.handFF p.ffClaim p.comps.ff.urgent

/-- The compartment FZ claim as it stands is handed to the arbiter. -/
def Part.handFZClaim (p : Part) : Part := p.handFZ p.fzClaim p.fzClaimUrgent

/-- The arbiter's record of the FF claim is behind the claim. -/
def Part.ffChanged (p : Part) : Bool :=
  decide (p.path.claims.ff.raised ≠ p.ffClaim ∨
    p.path.claims.ff.cls ≠ (if p.comps.ff.urgent then 1 else 2))

/-- The arbiter's record of the compartment FZ claim is behind the claim. -/
def Part.fzChanged (p : Part) : Bool :=
  decide (p.path.fzRaised ≠ p.fzClaim ∨ p.path.fzUrgent ≠ p.fzClaimUrgent)

/-- After each event at the compartment unit each change in either claim is handed on (R64); two changes
go separately, in an order the spec leaves open. -/
def Part.handClaims (p : Part) : Part :=
  if p.ffChanged && p.fzChanged then p.inEitherOrder Part.handFFClaim Part.handFZClaim
  else p.handFFClaim.handFZClaim

/-! ## Events at the compartment unit -/

/-- The effective setpoint is recomputed, and the demand re-evaluated in the modes that evaluate it (R57,
R59). -/
def Part.recompute (p : Part) (c : Comp) : Part :=
  let r := p.comp c
  (p.setComp c (({ r with effective := r.effectiveOf }).inActive p.active CompRec.reevaluate)).handClaims

/-- A compartment's record takes an announcement for its air point: it follows it, and in REGULATE and SERVICE the warm
alarm acts on it and then the demand. The alarm's own change is a record of its own, so that an alarm that expires raises
WARM (R67) also where a tuning that the same announcement applies clears it. That the alarm goes first, so that a COUNTING
that no value pauses is paused before that tuning reaches it, is the model's choice (log entry 17). -/
def Part.takeAir (p : Part) (c : Comp) (a : Ann) (l : LostChange) : Part :=
  let q := p.setComp c (((p.comp c).follow a l).inActive p.active fun r => r.warmAnn a)
  q.setComp c ((q.comp c).inActive q.active fun r => r.takeAnn a l)

/-- An announcement for a compartment's air point: its record takes it, and LOST begins raises BLIND (R60, R68). The claims
are handed on, and then a new value is passed to the arbiter (R59); that the claims go first, where R59, R64 and R96 give
no order, is the model's choice (log entry 33). -/
def Part.announceAir (p : Part) (c : Comp) (a : Ann) (l : LostChange) : Part :=
  let q := p.takeAir c a l
  let q := if p.active ∧ l = .begins then q.raiseBlind c else q
  let q := q.handClaims
  match a with
  | .value _ => q.passValue c
  | _ => q

/-- A stack replaced and the effective setpoint recomputed. -/
def Part.setStack (p : Part) (c : Comp) (stack : List Override) : Part :=
  ({ p with comps := p.comps.set c { p.comp c with stack := stack } }).recompute c

/-- An entry pushed on top (R50, R55). -/
def Part.push (p : Part) (c : Comp) (o : Override) : Part := p.setStack c (o :: (p.comp c).stack)

/-- A door recovery request (R55). -/
def Part.doorRecovery (p : Part) (c : Comp) (offset : Int) (duration : Nat) : Part :=
  let stack := (p.comp c).stack
  if stack.any Override.liveDoor then p.setStack c (stack.map (·.refreshDoor duration))
  else if stack.length < stackLimit then p.push c (newOverride .offset offset duration .door)
  else p.raiseOverflow c

/-- The expiry of the entry in a slot of a stack (R53). -/
def Part.expireOverride (p : Part) (c : Comp) (slot : Nat) : Part :=
  match (p.comp c).stack.reverse[slot]? with
  | some o => if o.due then p.setStack c (trim (spendSlot (p.comp c).stack slot)) else p
  | none => p

/-- The blind timer's expiry (R61). -/
def Part.expireBlind (p : Part) (c : Comp) : Part :=
  let r := p.comp c
  if r.blind.due then
    match r.demand with
    | .blindCall => (p.setComp c r.blindRest).handClaims
    | .blindRest => (p.setComp c r.blindCall).handClaims
    | _ => p
  else p

/-- The warm count has reached the delay (R67). -/
def Part.expireWarm (p : Part) (c : Comp) : Part := p.setComp c (p.comp c).expireWarm

/-- One second of a compartment: its overrides in every mode, its blind timer, and its warm count up to
the delay. -/
def CompRec.tick (r : CompRec) : CompRec :=
  { r with
    stack := r.stack.map Override.tick
    blind := r.blind.tick
    warmCount :=
      if r.warm = .counting ∧ r.warmCount < r.tuning.warmDelay then r.warmCount + 1 else r.warmCount }

/-! ## Table closes -/

/-- The limits that a close of CMP_LIMITS gives a compartment: the base is clamped into them and the
effective setpoint recomputed (R48). -/
def CompRec.takeLimits (r : CompRec) (e : List Int) : CompRec :=
  match e with
  | [lo, hi] =>
    let q := { r with spMin := lo, spMax := hi, base := clampInt lo hi r.base }
    { q with effective := q.effectiveOf }
  | _ => r

/-- A new CMP_TUNING entry for a compartment (R69, R70): pending while it is calling, else in force at
once. -/
def CompRec.takeTuning (r : CompRec) (active : Bool) (t : Tuning) : CompRec :=
  if r.demand.isCalling then { r with pending := some t }
  else
    let q : CompRec := CompRec.inActive { r with tuning := t, pending := none } active CompRec.warmRetune
    q.inActive active fun x : CompRec => if x.demand = .idle then x.evaluate false else x

/-- Three records replaced as one event; WARM is raised for each alarm that goes to ALARMED. -/
def Part.setComps (p : Part) (f : Comp → CompRec → CompRec) : Part :=
  (((p.setComp .ff (f .ff p.comps.ff)).setComp .cd (f .cd p.comps.cd)).setComp .fz (f .fz p.comps.fz))

/-! ## Changes of mode (R65) -/

/-- A compartment at entry to BYPASS or SHOWROOM: IDLE and held, pending tuning applied, alarm CLEAR. -/
def CompRec.hold (r : CompRec) : CompRec :=
  { r with
    demand := .idle
    urgent := false
    blind := .stopped
    warm := .clear
    warmCount := 0
    tuning := r.pending.getD r.tuning
    pending := none }

/-- A compartment at entry to REGULATE from BYPASS: it waits. -/
def CompRec.await (r : CompRec) : CompRec := r.stopBlind.goTo .waiting false

/-- A compartment at release from SHOWROOM to REGULATE, evaluated afresh from its stored state. -/
def CompRec.resume (r : CompRec) : CompRec :=
  if r.lost then r.blindCall
  else match r.air with
    | some _ => r.evaluate false
    | none => r.goTo .waiting false

/-- BLIND is raised for each compartment that is LOST (R68). -/
def Part.raiseBlindLost (p : Part) : Part :=
  [Comp.ff, .cd, .fz].foldl (fun q c => if (q.comp c).lost then q.raiseBlind c else q) p

end Sys2Proof.Machine
end

