-- ==== Sys2Proof/Machine/Defrost.lean ====
section
/-! DEFINITION. The defrost sequencer (spec/05): frost accumulation, the deferral test, the phases of a
defrost, the interval choice, recovery, and aborts. -/

namespace Sys2Proof.Machine

/-! ## Accumulation (R109, R110) -/

/-- The accumulation saturates here (R106). -/
def accumulationLimit : Nat := 16777215

/-- The phases in which frost accumulates. -/
def Phase.accumulates : Phase → Bool
  | .idle | .due | .recover => true
  | _ => false

/-- What one second adds: 1 for the compressor on the FZ path, and the door weight while the freezer or
the chilled drawer stands open (R109). -/
def Part.frostSecond (p : Part) : Nat :=
  (if p.runs .fz then 1 else 0) + (if p.doors.fz.isOpen || p.doors.cd.isOpen then p.defrostSet.doorWeight else 0)

/-- One second of the accumulation. -/
def Part.accumulate (p : Part) : Part :=
  if p.active && p.defrost.phase.accumulates then
    { p with defrost.accumulation := min accumulationLimit (p.defrost.accumulation + p.frostSecond) }
  else p

/-! ## The deferral test (R112) -/

/-- The deferral holds the DF claim back. -/
def Part.deferred (p : Part) : Bool :=
  p.defrost.shedCopy &&
    (match p.defrost.dueSince with
      | some t => decide (p.elapsed t < p.defrostSet.maxDeferral)
      | none => false)

/-- In DUE the DF claim follows the test, and a change is handed to the arbiter. -/
def Part.testDeferral (p : Part) : Part :=
  if p.defrost.phase = .due ∧ p.defrost.dfClaim = p.deferred then
    ({ p with defrost.dfClaim := !p.deferred }).handDF (!p.deferred)
  else p

/-- The phase goes to DUE, newly due now (R110, R111, R121). -/
def Part.becomeDue (p : Part) : Part :=
  ({ p with defrost.phase := .due, defrost.dueSince := some p.seconds }).testDeferral

/-! ## HEAT, HOLD and DRIP (R114 to R119) -/

/-- HEAT ends in DRIP (R115, R119). -/
def Part.endHeat (p : Part) (cause : EndCause) : Part :=
  { p with
    defrost.phase := .drip
    defrost.heater := false
    defrost.endCause := some cause
    defrost.drip := .running p.interlock.tDrip }

/-- The coil value is at or above the terminate temperature. -/
def Part.coilWarm (p : Part) : Bool :=
  match p.defrost.coil with
  | some t => decide (p.defrostSet.terminate ≤ t)
  | none => false

/-- A termination check in HEAT. -/
def Part.checkTermination (p : Part) : Part :=
  if p.defrost.phase = .heat ∧ p.coilWarm = true then p.endHeat .terminated else p

/-- What is taken while HEAT_TIMEOUT waits, and by its rule ends heating, is taken before the second at which the heat time
reaches the max heat time: the heat time stands one below it (R115, R116). -/
def Part.beforeTimeout (p : Part) : Part :=
  { p with defrost.heatTime := min p.defrost.heatTime (p.pathLimits.maxHeat - 1) }

/-- The check of a new coil value in HEAT (R115), taken before a timeout that waits. -/
def Part.checkNewCoil (p : Part) : Part :=
  if p.defrost.phase = .heat ∧ p.coilWarm = true then p.beforeTimeout.endHeat .terminated else p

/-- A timeout test in HEAT; a timeout raises DEFROST_LONG (R124). -/
def Part.checkTimeout (p : Part) : Part :=
  if p.defrost.phase = .heat ∧ p.pathLimits.maxHeat ≤ p.defrost.heatTime then
    (p.endHeat .timedOut).raiseDefrostLong
  else p

/-- Heating resumes from HOLD (R118). -/
def Part.resumeHeat (p : Part) : Part :=
  (({ p with defrost.phase := .heat, defrost.heater := true }).checkTermination).checkTimeout

/-- The drive unit reports a HEATER value sent: on takes PREP to HEAT (R113, R114). -/
def Part.reportHeater (p : Part) (v : Nat) : Part :=
  if p.defrost.phase = .prep ∧ v ≠ 0 then
    ({ p with defrost.phase := .heat, defrost.heatTime := 0 }).checkTermination
  else p

/-- One second of HEAT or HOLD (R115, R117) and of the drip and recover timers. HEAT_TIMEOUT and BUDGET_EXHAUSTION are
commands of their own, and which commands taken before them give the last second back stands in log entry 3. -/
def Part.tickDefrost (p : Part) : Part :=
  { p with
    defrost.heatTime :=
      if p.defrost.phase = .heat ∧ p.defrost.heatTime < p.pathLimits.maxHeat then p.defrost.heatTime + 1
      else p.defrost.heatTime
    defrost.budget := if p.defrost.phase = .hold then p.defrost.budget - 1 else p.defrost.budget
    defrost.drip := p.defrost.drip.tick
    defrost.recover := p.defrost.recover.tick }

/-! ## Completion (R120) and recovery (R121) -/

/-- The row that the interval choice takes, none when the working copy has no used rows. -/
def chooseRow (rows : List IntervalRow) (cause : Option EndCause) (heat : Nat) : Option IntervalRow :=
  if cause = some .timedOut then rows.getLast?
  else match rows.find? fun r => heat ≤ r.heatLimit with
    | some r => some r
    | none => rows.getLast?

/-- The interval chosen for the next cycle. -/
def Part.nextInterval (p : Part) : Nat :=
  match chooseRow p.intervals p.defrost.endCause p.defrost.heatTime with
  | some r => r.interval
  | none => p.defrostSet.firstInterval

/-- The last-defrost record of the present defrost. -/
def Part.defrostOutcome (p : Part) (cause : EndCause) (interval : Option Nat) : LastDefrost :=
  ⟨p.defrost.heatTime, p.defrost.budgetLoaded - p.defrost.budget, cause, interval, p.seconds⟩

/-- The DF claim is withdrawn at the arbiter. -/
def Part.dropDF (p : Part) : Part := p.handDF false

/-- The recover claim is raised at the arbiter. -/
def Part.raiseRecover (p : Part) : Part := p.handRecover true

/-- The drip timer expires: the defrost is completed (R120). Of the two changes handed to the arbiter the recover
claim goes first: then FZ is the head that DF's release grants unless another claim of class 1 waited before it,
which is what R92 and R120 give either order (log entry 10). -/
def Part.completeDefrost (p : Part) : Part :=
  if p.defrost.phase = .drip ∧ p.defrost.drip.due = true then
    let next := p.nextInterval
    (({ p with
        defrost.interval := next
        defrost.accumulation := 0
        defrost.dueSince := none
        defrost.last := some (p.defrostOutcome (p.defrost.endCause.getD .terminated) (some next))
        defrost.phase := .recover
        defrost.drip := .stopped
        defrost.recover := .running p.defrostSet.recoverTime
        defrost.dfClaim := false
        defrost.recoverClaim := true }).raiseRecover).dropDF
  else p

/-- RECOVER ends (R121): IDLE, or DUE when the accumulation has reached the current interval. The recover claim's
withdrawal is handed to the arbiter before a DF claim of the same event, an order that the spec leaves open: the
model's choice (log entry 34). -/
def Part.endRecover (p : Part) : Part :=
  let q := ({ p with
      defrost.recover := .stopped
      defrost.recoverClaim := false
      defrost.phase := .idle }).handRecover false
  if q.defrost.interval ≤ q.defrost.accumulation then q.becomeDue else q

/-- The recover timer expires (R121). -/
def Part.expireRecover (p : Part) : Part :=
  if p.defrost.phase = .recover ∧ p.defrost.recover.due = true then p.endRecover else p

/-- The coil value follows an announcement for FZ_COIL (R106); a new value is checked in HEAT (R115) and in
RECOVER (R121). -/
def Part.announceCoil (p : Part) (a : Ann) : Part :=
  match a with
  | .nothing => p
  | .noValue => { p with defrost.coil := none }
  | .value t =>
    let q := { p with defrost.coil := some t }
    match p.defrost.phase with
    | .heat => q.checkNewCoil
    | .recover => if t ≤ p.defrostSet.recoverFan then q.endRecover else q
    | _ => q

/-! ## Events of the sequencer's own -/

/-- The accumulation has reached the current interval in IDLE (R110). -/
def Part.fallDue (p : Part) : Part :=
  if p.defrost.phase = .idle ∧ p.defrost.interval ≤ p.defrost.accumulation then p.becomeDue else p

/-- The heat time has reached the max heat time (R115). -/
def Part.timeOutHeat (p : Part) : Part := p.checkTimeout

/-- The budget is exhausted in HOLD (R117). -/
def Part.exhaustBudget (p : Part) : Part :=
  if p.defrost.phase = .hold ∧ p.defrost.budget = 0 then p.resumeHeat else p

/-- A change of the shed mark handed by the arbiter (R97, R112). -/
def Part.takeShed (p : Part) (b : Bool) : Part := ({ p with defrost.shedCopy := b }).testDeferral

/-! ## Aborts (R122, R123) -/

/-- "Defrost busy" (R193): PREP, HEAT, HOLD or DRIP. -/
def Phase.busy : Phase → Bool
  | .prep | .heat | .hold | .drip => true
  | _ => false

/-- Off is placed in the HEATER slot at an abort from PREP or HEAT (R113). At a trip the slot holds the safe value,
which is off, and keeps it (R160). -/
def Part.placeHeaterOff (p : Part) : Part := if p.defrost.heater then p.ask .heater 0 else p

/-- A defrost is aborted back to DUE. -/
def Part.abortDefrost (p : Part) (cause : EndCause) : Part :=
  ({ p.placeHeaterOff with
      defrost.last := some (p.defrostOutcome cause none)
      defrost.heater := false
      defrost.heatTime := 0
      defrost.budget := 0
      defrost.budgetLoaded := 0
      defrost.endCause := none
      defrost.drip := .stopped
      defrost.phase := .due }).testDeferral

/-- A trip (R122) or an entry to BYPASS (R123) at the sequencer. -/
def Part.cutDefrost (p : Part) (cause : EndCause) : Part :=
  if p.defrost.phase.busy then p.abortDefrost cause
  else if p.defrost.phase = .recover then p.endRecover
  else p

end Sys2Proof.Machine
end

