-- ==== Sys2Proof/Machine/Doors.lean ====
section
/-! DEFINITION. The door unit (spec/06): door transitions, captures, door-stop and ajar timers, and the
recovery test. -/

namespace Sys2Proof.Machine

/-- The compartment a door belongs to (spec/06). -/
def doorComp : DoorId → Comp
  | .ffL => .ff
  | .ffR => .ff
  | .cd => .cd
  | .fz => .fz

/-- The door of a door point P6..P9 (spec/06). -/
def doorOfPoint (i : PointId) : Option DoorId :=
  match i.val with
  | 6 => some .ffL
  | 7 => some .ffR
  | 8 => some .cd
  | 9 => some .fz
  | _ => none

/-- A door record at an opening (R130). -/
def DoorRec.opening (d : DoorRec) (now : Second) (s : DoorSetting) : DoorRec :=
  { d with
    isOpen := true
    openSince := some now
    ajar := .running s.ajarTime
    ajarMark := false
    fanStop := if s.fanStopDelay = 0 then .stopped else .running s.fanStopDelay
    stopActive := decide (s.fanStopDelay = 0) }

/-- A width saturates at 65 535 (R131). -/
def widthOf (elapsed : Nat) : Nat := min 65535 elapsed

/-- A door record at a closing (R131). -/
def DoorRec.closing (d : DoorRec) (width : Nat) (how : WidthLevel) : DoorRec where
  isOpen := false
  openSince := none
  width := some width
  widthLevel := some how
  unread := true
  overcapture := d.overcapture || d.unread
  fanStop := .stopped
  stopActive := false
  ajar := .stopped
  ajarMark := false

/-- The seconds a door has been open, saturating. -/
def Part.openWidth (p : Part) (d : DoorRec) : Nat :=
  match d.openSince with
  | some t => widthOf (p.elapsed t)
  | none => 0

/-- The recovery test of a closing (R137) and, when it passes, the door recovery request (R55). -/
def Part.testRecovery (p : Part) (d : DoorId) (width : Nat) (how : WidthLevel) : Part :=
  let t := (p.comp (doorComp d)).tuning
  if p.active = true ∧ how = .openLevel ∧ t.doorMin ≤ width then
    p.doorRecovery (doorComp d) t.doorOffset t.doorDuration
  else p

/-- A closing (R131). -/
def Part.closeDoor (p : Part) (d : DoorId) (how : WidthLevel) : Part :=
  let w := p.openWidth (p.door d)
  (p.setDoor d ((p.door d).closing w how)).testRecovery d w how

/-- An opening (R130). -/
def Part.openDoor (p : Part) (d : DoorId) : Part :=
  p.setDoor d ((p.door d).opening p.seconds (p.doorSet.get d))

/-- An announcement for a door point: a change of level is a door transition (R129). -/
def Part.announceDoor (p : Part) (d : DoorId) (a : Ann) : Part :=
  match a with
  | .nothing => p
  | .noValue => if (p.door d).isOpen then p.closeDoor d .lost else p
  | .value v =>
    if v = 1 then (if (p.door d).isOpen then p else p.openDoor d)
    else if (p.door d).isOpen then p.closeDoor d .openLevel else p

/-- The fan-stop timer expires: the stop becomes active (R134). In a mode where the timer is stopped it
does not expire (R138). -/
def Part.expireFanStop (p : Part) (d : DoorId) : Part :=
  if p.polls = true ∧ (p.door d).fanStop.due = true then
    p.setDoor d { p.door d with fanStop := .stopped, stopActive := true }
  else p

/-- The ajar timer expires: the ajar mark is set and DOOR_AJAR raised (R135). -/
def Part.expireAjar (p : Part) (d : DoorId) : Part :=
  if p.polls = true ∧ (p.door d).ajar.due = true then
    (p.setDoor d { p.door d with ajar := .stopped, ajarMark := true }).raiseAjar d
  else p

/-- One second of a door's timers, in the modes in which they run (R138). -/
def DoorRec.tick (d : DoorRec) (runs : Bool) : DoorRec :=
  if runs then { d with fanStop := d.fanStop.tick, ajar := d.ajar.tick } else d

/-- DOOR READ clears the unread and overcapture marks (R132). -/
def DoorRec.read (d : DoorRec) : DoorRec := { d with unread := false, overcapture := false }

end Sys2Proof.Machine
end

