-- ==== Sys2Proof/Machine/Points.lean ====
section
/-! DEFINITION. The point unit (spec/01): conversion of raw counts, filter, point states, fallback chains and
resolution, announcements to the consumers, and samples. -/

namespace Sys2Proof.Machine

/-! ## Conversion (R6 to R9) -/

/-- Division rounded to nearest, a quotient halfway going away from zero; the divisor is positive. -/
def roundDiv (a b : Int) : Int := (2 * a + a.sign * b).tdiv (2 * b)

/-- Saturated to −4000..6000. -/
def saturate (v : Int) : Int := clampInt (-4000) 6000 v

/-- Interpolation in the lowest segment that holds the count (R7). -/
def interpolate (c : Nat) : List Knot → Int
  | a :: b :: rest =>
    if c ≤ b.count then
      a.temp + roundDiv ((b.temp - a.temp) * ((c : Int) - a.count)) ((b.count : Int) - a.count)
    else interpolate c (b :: rest)
  | [a] => a.temp
  | [] => 0

/-- The converted temperature, or none when the count is out of span (R6). -/
def convert (knots : List Knot) (c : Nat) : Option Int :=
  match knots.head?, knots.getLast? with
  | some a, some b => if a.count ≤ c ∧ c ≤ b.count then some (interpolate c knots) else none
  | _, _ => none

/-- A filter step (R8): rounded to nearest, and at least 1 towards the new value. -/
def filterStep (d : Int) (k : Nat) : Int :=
  let q := roundDiv d (2 ^ k)
  if q = 0 then d.sign else q

/-- The filtered value after a trimmed value: seeded unless the point was FRESH (R8). -/
def Point.filter (x : Point) (t : Int) (k : Nat) : Int :=
  if x.state = .fresh then x.filtered + filterStep (t - x.filtered) k else t

/-- The level of a door sample (R9). -/
def doorLevel (c : Nat) : Int := if 2048 ≤ c then 1 else 0

/-! ## Chains and resolution (R15, R16) -/

/-- A door point. -/
def isDoorPoint (i : PointId) : Bool := (doorOfPoint i).isSome

/-- An air point P0, P1 or P2 and its compartment. -/
def airComp (i : PointId) : Option Comp :=
  match i.val with
  | 0 => some .ff
  | 1 => some .cd
  | 2 => some .fz
  | _ => none

/-- The links followed from a point: at most the first argument, none to a point already seen, none to a
door point (R15). -/
def followLinks (set : PointId → Option PointId) : Nat → List PointId → PointId → List PointId
  | 0, _, _ => []
  | n + 1, seen, i =>
    match set i with
    | none => []
    | some j => if seen.contains j || isDoorPoint j then [] else j :: followLinks set n (j :: seen) j

/-- The chain of a point: a door point alone, or a temperature point and up to three stand-ins. -/
def chainOf (set : PointId → Option PointId) (i : PointId) : List PointId :=
  if isDoorPoint i then [i] else i :: followLinks set 3 [i] i

/-- The chain of a point by the working settings. -/
def Part.chain (p : Part) (i : PointId) : List PointId := chainOf (fun j => p.pointSet[j].fallback) i

/-- The first FRESH point of a chain gives the value; `n` links have been followed to its head. -/
def firstFresh (points : PointId → Point) : Nat → List PointId → Option Resolved
  | _, [] => none
  | n, i :: rest =>
    if (points i).state = .fresh then some ⟨(points i).filtered, i, n⟩ else firstFresh points (n + 1) rest

/-- The resolution of a point (R15, R16). -/
def Part.resolve (p : Part) (i : PointId) : Option Resolved := firstFresh p.point 0 (p.chain i)

/-- The LOST mark of a point with a resolution (R21). -/
def lostOf (i : PointId) (s : PointState) (r : Option Resolved) : Bool :=
  (airComp i).isSome && (s = .stale || s = .faulty) && r.isNone

/-! ## Announcements (R17, R18, R21) -/

/-- What is announced of a resolution: a new value when it was caused by a sample of the new source or
differs in value or source, no value when there was one (R18). -/
def annOf (sampled : Option PointId) (old new : Option Resolved) : Ann :=
  match new, old with
  | some n, some o =>
    if sampled = some n.source ∨ n.value ≠ o.value ∨ n.source ≠ o.source then .value n.value else .nothing
  | some n, none => .value n.value
  | none, some _ => .noValue
  | none, none => .nothing

/-- How the LOST mark changed. -/
def lostChange (old new : Bool) : LostChange :=
  if old = new then .same else if new then .begins else .ends

/-- An announcement to the consumers of a point. -/
structure Announcement where
  point : PointId
  ann : Ann
  lost : LostChange
deriving DecidableEq, Repr

/-- The consumers of a point take its announcement (table at the head of spec/01). AMBIENT is read by the
condenser rule when it is evaluated. -/
def Part.announce (p : Part) (x : Announcement) : Part :=
  match x.point.val with
  | 0 => p.announceAir .ff x.ann x.lost
  | 1 => p.announceAir .cd x.ann x.lost
  | 2 => p.announceAir .fz x.ann x.lost
  | 3 => match x.ann with
    | .value t => p.takeFFCoil t
    | _ => p
  | 4 => p.announceCoil x.ann
  | 6 => p.announceDoor .ffL x.ann
  | 7 => p.announceDoor .ffR x.ann
  | 8 => p.announceDoor .cd x.ann
  | 9 => p.announceDoor .fz x.ann
  | _ => p

/-- The sixteen points. -/
def allPoints : List PointId := [0, 1, 2, 3, 4, 5, 6, 7, 8, 9, 10, 11, 12, 13, 14, 15]

/-- The announcements that the change from one set of records to another gives, in point order. -/
def announcements (sampled : Option PointId) (old new : Vector Point 16) : List Announcement :=
  (allPoints.map fun i =>
    (⟨i, annOf sampled old[i].resolved new[i].resolved, lostChange old[i].lost new[i].lost⟩ :
      Announcement)).filter fun a => decide (¬(a.ann = .nothing ∧ a.lost = .same))

/-- The records with every affected point resolved afresh (R17). -/
def Part.resolved (p : Part) (affected : PointId → Bool) : Vector Point 16 :=
  Vector.ofFn fun i =>
    let x := p.points[i]
    if affected i then
      let r := p.resolve i
      { x with resolved := r, lost := lostOf i x.state r }
    else x

/-- Announcements of one event are not ordered among themselves (R19): one alone is taken as it stands,
several in point order or the reverse, as the next free value has it (log entry 5). -/
def Part.announceAll (p : Part) (l : List Announcement) : Part :=
  match l with
  | [] => p
  | [a] => p.announce a
  | l =>
    let q := { p with choices := p.choices + 1 }
    (if Config.secondFirst p.choices then l.reverse else l).foldl Part.announce q

/-- Affected points are resolved afresh, and then their announcements are made (R17, R18). -/
def Part.resolveAfresh (p : Part) (sampled : Option PointId) (affected : PointId → Bool) : Part :=
  let v := p.resolved affected
  ({ p with points := v }).announceAll (announcements sampled p.points v)

/-- The point and every point whose chain holds it are resolved afresh (R17). -/
def Part.resolveFrom (p : Part) (sampled : Option PointId) (i : PointId) : Part :=
  p.resolveAfresh sampled fun j => (p.chain j).contains i

/-! ## Samples (R4, R5, R9, R10, R12) -/

/-- What became of a delivered sample. -/
inductive SampleOutcome where
  | taken | outOfSpan | held | discarded
deriving DecidableEq, Repr

/-- A sample delivered to the point unit (section 1.3). -/
structure Delivery where
  point : PointId
  count : Nat
  curve : Nat
  trim : Int
  shift : Nat
deriving DecidableEq, Repr

/-- The knots of a curve that is VALID; none when it is LOADING or INVALID. -/
def Part.validCurve (p : Part) (curve : Nat) : Option (List Knot) :=
  if h : curve < 8 then
    let t := p.table (tCurve ⟨curve, h⟩)
    if t.state = .valid then some (usedKnots t) else none
  else none

/-- The record after an in-span or door sample (R10). The stale timer is started anew in every mode that takes samples:
in SHOWROOM entered from BYPASS too, where R14 does not say that it stands stopped; that is the model's choice (log
entry 35). -/
def Point.take (x : Point) (filtered : Int) (raw : Nat) (now : Second) (staleTime : Nat) : Point :=
  { x with
    state := .fresh
    filtered := filtered
    lastRaw := some raw
    lastSecond := some now
    stale := .running staleTime }

/-- An in-span or door sample is taken: record update, resolution and announcements. -/
def Part.takeSample (p : Part) (i : PointId) (filtered : Int) (raw : Nat) : Part :=
  (p.setPoint i ((p.point i).take filtered raw p.seconds p.pointSet[i].staleTime)).resolveFrom (some i) i

/-- SENSOR is raised when the point is targeted by the active map (R25). -/
def Part.raiseIfTargeted (p : Part) (i : PointId) : Part := if p.targeted i then p.raiseSensor i else p

/-- An out-of-span sample (R12). -/
def Part.takeOutOfSpan (p : Part) (i : PointId) (raw : Nat) : Part :=
  let x := { p.point i with lastRaw := some raw, lastSecond := some p.seconds }
  if x.state = .faulty then p.setPoint i x
  else ((p.setPoint i { x with state := .faulty, stale := .stopped }).raiseIfTargeted i).resolveFrom none i

/-- A delivered sample: discarded in BYPASS, held when its curve is not VALID, else taken (R4, R5). -/
def Part.deliver (p : Part) (d : Delivery) : Part × SampleOutcome :=
  if p.mode = .bypass then (p, .discarded)
  else if isDoorPoint d.point then (p.takeSample d.point (doorLevel d.count) d.count, .taken)
  else match p.validCurve d.curve with
    | none => (p, .held)
    | some knots =>
      match convert knots d.count with
      | none => (p.takeOutOfSpan d.point d.count, .outOfSpan)
      | some t =>
        (p.takeSample d.point ((p.point d.point).filter (saturate (t + d.trim)) d.shift) d.count, .taken)

/-! ## Timers and modes (R11, R13, R14) -/

/-- The stale timer expires (R11). -/
def Part.expireStale (p : Part) (i : PointId) : Part :=
  let x := p.point i
  if x.stale.due = true ∧ (x.state = .unseen ∨ x.state = .fresh) then
    ((p.setPoint i { x with state := .stale, stale := .stopped }).raiseIfTargeted i).resolveFrom none i
  else p

/-- One second of the stale timers. -/
def tickPoints (v : Vector Point 16) : Vector Point 16 :=
  Vector.ofFn fun i => { v[i] with stale := v[i].stale.tick }

/-- Entry to BYPASS: every stale timer stops (R14). -/
def Part.stopStale (p : Part) : Part :=
  { p with points := Vector.ofFn fun i => { p.points[i] with stale := .stopped } }

/-- Entry to REGULATE from BYPASS: every point goes to UNSEEN with its timer started, and is resolved
afresh (R14). -/
def Part.unseeAll (p : Part) : Part :=
  Part.resolveAfresh
    { p with points := Vector.ofFn fun i =>
        { p.points[i] with state := .unseen, stale := .running p.pointSet[i].staleTime } }
    none fun _ => true

/-- A close of POINT_SET (R2): new settings, running timers cut to the new stale time, every point
resolved afresh. -/
def Part.takePointSet (p : Part) (v : Vector PointSetting 16) : Part :=
  Part.resolveAfresh
    { p with
      pointSet := v
      points := Vector.ofFn fun i =>
        { p.points[i] with stale := match p.points[i].stale with
            | .running n => .running (min n v[i].staleTime)
            | t => t } }
    none fun _ => true

end Sys2Proof.Machine
end

