-- ==== Sys2Proof/Machine/Trips.lean ====
section
/-! DEFINITION. The trip unit (spec/08, R162 to R172): causes, trips taken and ended, auto-rearm, lockout, and
the drive unit's status intake that feeds it (R158). -/

namespace Sys2Proof.Machine

/-! ## Taking a trip (R166, R167) -/

/-- The set of one cause. -/
def Causes.only (c : Cause) : Causes := Causes.empty.add c

/-- The clean timer meets a trip: it stands still with its remaining time, at least its last second
(R170). -/
def heldClean : Timer → Timer
  | .running 0 => .running 1
  | t => t

/-- The trip record of a trip taken now. -/
def TripRec.taken (t : TripRec) (c : Cause) (now : Second) : TripRec :=
  { t with
    state := .tripped
    first := some c
    causes := .only c
    second := some now
    absence := .stopped
    clean := heldClean t.clean }

/-- A cause arising in NORMAL takes a trip (R166). -/
def Part.takeTrip (p : Part) (c : Cause) : Part :=
  (((({ p with trip := p.trip.taken c p.seconds }).tripSlots).tripPath).cutDefrost .abortedTrip).raiseTrip c

/-- A cause arising while a trip stands is added (R167); the absence timer stops. -/
def Part.addCause (p : Part) (c : Cause) : Part :=
  ({ p with trip := { p.trip with causes := p.trip.causes.add c, absence := .stopped } }).raiseTrip c

/-- A cause arises. -/
def Part.arise (p : Part) (c : Cause) : Part :=
  if p.trip.state = .normal then p.takeTrip c else p.addCause c

/-! ## The end of a trip (R172) -/

/-- The trip record after the end of its trip. -/
def TripRec.ended (t : TripRec) (how : TripEnd) : TripRec :=
  { t with
    last := some ⟨t.first, t.causes, t.second, how⟩
    state := .normal
    first := none
    second := none
    causes := .empty
    absence := .stopped
    silent := 0 }

/-- The trip ends: the record, then the drive unit and the path arbiter. -/
def Part.endTrip (p : Part) (how : TripEnd) : Part :=
  (({ p with trip := p.trip.ended how }).untripSlots).untripPath

/-! ## Auto-rearm and lockout (R169, R170) -/

/-- The auto-rearm decision, taken with the absence timer expired. -/
def Part.rearmDecision (p : Part) : Part :=
  if p.tripSet.autoRearm = false ∨ p.trip.causes.hostTrip = true then p
  else if p.trip.rearms < 2 then
    let n := p.trip.rearms + 1
    ({ p with trip := { p.trip with
        rearms := n
        clean := if n = 1 then .running 1800 else p.trip.clean } }).endTrip .auto
  else ({ p with trip := { p.trip with state := .lockout, absence := .stopped } }).raise .lockout

/-- The absence timer's expiry (R169). -/
def Part.expireAbsence (p : Part) : Part :=
  if p.trip.state = .tripped ∧ p.trip.absence.due = true then
    ({ p with trip := { p.trip with absence := .expired } }).rearmDecision
  else p

/-- A close of TRIP_SET that leaves auto-rearm ON while the absence timer stands expired takes the decision
at once (R163). -/
def Part.takeTripSet (p : Part) (t : TripSet) : Part :=
  let q := { p with tripSet := t }
  if q.trip.state = .tripped ∧ t.autoRearm = true ∧ q.trip.absence = .expired then q.rearmDecision else q

/-- The clean timer's expiry: the window closes (R170). -/
def Part.expireClean (p : Part) : Part :=
  if p.trip.state = .normal ∧ p.trip.clean.due = true then
    { p with trip := { p.trip with rearms := 0, clean := .stopped } }
  else p

/-- One second of the trip unit's timers: the absence timer in TRIPPED, the clean timer in NORMAL. -/
def TripRec.tick (t : TripRec) : TripRec :=
  { t with
    absence := if t.state = .tripped then t.absence.tick else t.absence
    clean := if t.state = .normal then t.clean.tick else t.clean }

/-! ## COMP statuses and timeouts (R164) -/

/-- A COMP status taken in. -/
def Part.compStatus (p : Part) (fault : Bool) : Part :=
  let q := { p with trip := { p.trip with silent := 0 } }
  if fault then q.arise .driveFault
  else if q.trip.state = .tripped ∧ q.trip.absence = .stopped then
    { q with trip := { q.trip with absence := .running q.tripSet.rearmDelay } }
  else q

/-- In TRIPPED a COMP timeout stops the absence timer. -/
def Part.breakAbsence (p : Part) : Part :=
  if p.trip.state = .tripped then { p with trip := { p.trip with absence := .stopped } } else p

/-- A COMP reply timeout handed to the trip unit. -/
def Part.compTimeout (p : Part) : Part :=
  if p.compSent = 0 then ({ p with trip := { p.trip with silent := 0 } }).breakAbsence
  else if p.trip.silent + 1 < 3 then
    ({ p with trip := { p.trip with silent := p.trip.silent + 1 } }).breakAbsence
  else (({ p with trip := { p.trip with silent := 0 } }).breakAbsence).arise .driveSilent

/-! ## Drive status intake (R158) -/

/-- The payload of a DRIVE STATUS. -/
structure StatusPayload where
  channel : Nat
  measured : Nat
  fault : Bool
deriving DecidableEq, Repr

/-- The four bytes of a DRIVE STATUS payload (R188). -/
def statusPayload : List Byte → Option StatusPayload
  | [c, hi, lo, f] => some ⟨c.toNat, natOf16 hi lo, decide (f ≠ 0)⟩
  | _ => none

/-- The channel that a frame carries in its payload's first byte. -/
def frameChannel (f : Frame) : Option Nat := f.payload.head?.map (·.toNat)

/-- A status taken in for a role: stored with the current second and handed on by role. -/
def Part.takeStatus (p : Part) (r : Role) (s : StatusPayload) : Part :=
  let q := p.setSlot r { p.slot r with status := some ⟨s.measured, s.fault, p.seconds⟩ }
  match r with
  | .comp => q.compStatus s.fault
  | .damperCD =>
    let w := q.watchDamper s.measured
    if s.fault then w.raiseDrive .damperCD else w
  | r => if s.fault then q.raiseDrive r else q

/-- The reply to a DRIVE frame of a role reaches the intake: taken in when it carries the channel of the
frame it answers. -/
def Part.intake (p : Part) (r : Role) (sent reply : Frame) : Part :=
  match statusPayload reply.payload with
  | some s => if frameChannel sent = some s.channel then p.takeStatus r s else p
  | none => p

/-- A timeout reaches the intake: only COMP's is handed on. -/
def Part.intakeTimeout (p : Part) (r : Role) : Part :=
  match r with
  | .comp => p.compTimeout
  | _ => p

end Sys2Proof.Machine
end

