-- ==== Sys2Proof/Machine/Maps.lean ====
section
/-! DEFINITION. The map unit (spec/02): SAMPLE replies, lookup and delivery, READINGS frames, the poll list
and the swap of the active map. -/

namespace Sys2Proof.Machine

/-! ## SAMPLE replies (R31, R32) -/

/-- A channel entry of a SAMPLE reply. -/
structure ChannelEntry where
  channel : Nat
  count : Nat
deriving DecidableEq, Repr

/-- The entries of a SAMPLE payload after its node status: three bytes each. -/
def channelEntries : List Byte → Option (List ChannelEntry)
  | [] => some []
  | c :: hi :: lo :: rest =>
    match channelEntries rest with
    | some l => some (⟨c.toNat, natOf16 hi lo⟩ :: l)
    | none => none
  | _ => none

/-- The entries of a well-formed reply (R31). -/
def wellFormedEntries (l : List ChannelEntry) : Bool :=
  decide (1 ≤ l.length ∧ l.length ≤ 8) &&
    l.all (fun e => decide (e.channel ≤ 7 ∧ e.count ≤ 4095)) && distinct (l.map (·.channel))

/-- A SAMPLE reply as the map unit takes it. -/
structure Sample where
  node : Nat
  ready : Bool
  entries : List ChannelEntry
deriving DecidableEq, Repr

/-- A well-formed SAMPLE reply; none for one that is rejected whole. -/
def sampleOf (f : Frame) : Option Sample :=
  match f.payload with
  | [] => none
  | status :: rest =>
    match channelEntries rest with
    | none => none
    | some l => if wellFormedEntries l then some ⟨f.src.toNat, decide (status = 0), l⟩ else none

/-! ## Lookup and delivery (R33) -/

/-- The used entry of the active map for a (node, channel) (R33). DESIGN CHOICE (log entry 41): the reply of a node that
a swap removed is looked up under that node's own address, so its channels are unmapped, where R38 also speaks of a
channel that the new map maps under another node's address. -/
def Part.lookup (p : Part) (node channel : Nat) : Option MapEntry :=
  p.activeEntries.find? fun e => e.node = node ∧ e.channel = channel

/-- The delivery an entry gives a count: its point, curve, trim and shift. A used entry of a VALID map
names a point of 0..15 (R28); any other number delivers nothing. -/
def deliveryOf (e : MapEntry) (count : Nat) : Option Delivery :=
  if h : e.point < 16 then some ⟨⟨e.point, h⟩, count, e.curve, e.trim, e.shift⟩ else none

/-- The quality of a channel item (R34), with the codes of R188. -/
inductive Quality where
  | fresh | faulty | raw | unmapped | held
deriving DecidableEq, Repr

/-- The code of a quality. -/
def Quality.code : Quality → Nat
  | .fresh => 0
  | .faulty => 1
  | .raw => 2
  | .unmapped => 3
  | .held => 4

/-- What is known of a channel when its lookup is over: its item, an item whose value is read when the
frame is built, or none. -/
inductive Item where
  | value (channel : Nat) (q : Quality) (v : Int)
  | later (channel : Nat) (point : PointId)
  | omitted
deriving DecidableEq, Repr

/-- The item of a mapped CONVERTED channel after its delivery (R34). -/
def convertedItem (p : Part) (channel : Nat) (i : PointId) (o : SampleOutcome) : Item :=
  match o with
  | .taken => .value channel .fresh (p.point i).filtered
  | .outOfSpan => .value channel .faulty (p.point i).filtered
  | _ => .later channel i

/-- The item of a channel by the forward mode of its entry: CONVERTED 0, RAW 1, NONE 2. -/
def itemOf (p : Part) (x : ChannelEntry) (e : MapEntry) (i : PointId) (o : SampleOutcome) : Item :=
  match e.forward with
  | 0 => convertedItem p x.channel i o
  | 1 => .value x.channel .raw x.count
  | _ => .omitted

/-- One channel of a reply: looked up, delivered when the reply is READY, and its item. -/
def Part.takeChannel (p : Part) (node : Nat) (ready : Bool) (x : ChannelEntry) : Part × Item :=
  match p.lookup node x.channel with
  | none => (p, .value x.channel .unmapped x.count)
  | some e =>
    match deliveryOf e x.count with
    | none => (p, .value x.channel .unmapped x.count)
    | some d =>
      let r := if ready then p.deliver d else (p, .held)
      (r.1, itemOf r.1 x e d.point r.2)

/-- Every channel of a reply in its order. -/
def Part.takeChannels (p : Part) (node : Nat) (ready : Bool) : List ChannelEntry → Part × List Item
  | [] => (p, [])
  | x :: rest =>
    let r := p.takeChannel node ready x
    let t := r.1.takeChannels node ready rest
    (t.1, r.2 :: t.2)

/-! ## READINGS (R34, R35) -/

/-- The bytes of an item as the frame is built. -/
def Part.itemBytes (p : Part) : Item → List Byte
  | .value c q v => u8 c ++ u8 q.code ++ i16 v
  | .later c i => u8 c ++ u8 Quality.held.code ++ i16 (p.point i).filtered
  | .omitted => []

/-- The READINGS frame of a reply. -/
def Part.readingsFrame (p : Part) (node : Nat) (items : List Item) : Frame :=
  ⟨0, 1, kindReadings, markByte p.attention ++ u8 node ++ (items.map p.itemBytes).flatten⟩

/-- The frame is handed to the management unit; a reply whose channels are all omitted gives none. -/
def Part.writeReadings (p : Part) (node : Nat) (items : List Item) : Part :=
  if items.all (· = .omitted) then p else p.placeReadings (p.readingsFrame node items)

/-- A SAMPLE reply reaches the map unit. -/
def Part.takeSampleReply (p : Part) (f : Frame) : Part :=
  match sampleOf f with
  | none => p
  | some s =>
    let r := p.takeChannels s.node s.ready s.entries
    r.1.writeReadings s.node r.2

/-! ## The poll list (R37, R38) -/

/-- A node inserted into an ascending list without duplicates. -/
def insertNode (n : Nat) : List Nat → List Nat
  | [] => [n]
  | a :: l => if n < a then n :: a :: l else if n = a then a :: l else a :: insertNode n l

/-- The distinct nodes of a map's used entries, ascending. -/
def nodesOf (t : Table) : List Nat := ((usedEntries t).map (·.node)).foldr insertNode []

/-- The next-due time of a node in a poll list. -/
def dueTime (times : List (Nat × Nat)) (n : Nat) : Option Nat := (times.find? fun x => x.1 = n).map (·.2)

/-- The poll list rebuilt: a node of both lists keeps its time, a new one is due at once (R38). -/
def rebuildPolls (nodes : List Nat) (old : List (Nat × Nat)) (now : Nat) : List (Nat × Nat) :=
  nodes.map fun n => (n, (dueTime old n).getD now)

/-- The selector moves and the poll list is rebuilt (R40). -/
def Part.swapTo (p : Part) (m : MapSel) : Part :=
  let q := { p with activeMap := m }
  { q with line.times := rebuildPolls (nodesOf (q.table m.table)) p.line.times p.line.ms }

end Sys2Proof.Machine
end

