-- ==== Sys2Proof/Machine/Line.lean ====
section
/-! DEFINITION. The cabinet scheduler (spec/09): the line arbiter, transactions and their ends, the relay queue
and its policy check, poll times, and `Part.settle`, what the part does at the end of every event. -/

namespace Sys2Proof.Machine

/-! ## Replies about relay frames (R183, R203) -/

/-- A REPLY about a relay frame: code 64, its data the node and kind of the frame and the block's own
data. -/
def Part.relayReply (p : Part) (f : Frame) (s : Status) (own : List Byte) : Part :=
  p.reply codeRelay s (f.dst :: f.kind :: own)

/-- A relay frame refused with MODE, RANGE or FULL is entered in the last-refusal record. -/
def Part.refuseRelay (p : Part) (f : Frame) (s : Status) : Part :=
  (p.recordRefusal codeRelay f.dst s).relayReply f s []

/-- A relay frame absorbed in SERVICE, or refused there (R157). A refusal with BUSY is no entry of the
last-refusal record, which R203 keeps for MODE, RANGE and FULL. -/
def Part.absorbRelay (p : Part) (f : Frame) (r : Role) (v : Nat) : Part :=
  let a := p.absorb r v
  if a.status = .range then a.part.refuseRelay f .range else a.part.relayReply f a.status a.data

/-! ## The policy check (R155, R156) -/

/-- What the drive unit makes of a relay frame in the present mode and drive map. -/
inductive Policy where
  | pass (owned : Option (Role × Nat))
  | refuse (s : Status)
  | absorb (r : Role) (v : Nat)
deriving DecidableEq, Repr

/-- The policy check of a relay frame. -/
def Part.policy (p : Part) (f : Frame) : Policy :=
  match p.ownedRole f with
  | none => .pass none
  | some (r, v) =>
    match p.mode with
    | .regulate => .refuse .mode
    | .showroom => .refuse .mode
    | .service => .absorb r v
    | .bypass => if badCode r v then .refuse .range else .pass (some (r, v))

/-- A relay frame that passes the check finds its place, or is refused with FULL (R182). -/
def Part.queueRelay (p : Part) (f : Frame) : Part :=
  if p.line.relay.length < queueLimit then { p with line.relay := p.line.relay ++ [f] }
  else p.dropRelay.refuseRelay f .full

/-- A frame that the main link hands over as a relay frame (R189). -/
def isRelay (f : Frame) : Bool :=
  decide (f.src = 0 ∧ 2 ≤ f.dst.toNat ∧ f.dst.toNat ≤ 62 ∧ f.payload.length ≤ 40 ∧
    ¬(f.kind = kindRequest ∧ f.payload = []))

/-- A relay frame arrives (R182); while a restart is pending it is discarded (R206). -/
def Part.takeRelay (p : Part) (f : Frame) : Part :=
  if p.restartPending ∨ isRelay f = false then p
  else match p.policy f with
    | .pass _ => p.queueRelay f
    | .refuse s => p.refuseRelay f s
    | .absorb r v => p.absorbRelay f r v

/-! ## Starting a transaction (R175 to R177) -/

/-- A frame is taken: SENDING, CDIR at the drive level, the transaction recorded. -/
def Part.send (p : Part) (f : Frame) (o : TxnOrigin) : Part :=
  { p with line.state := .sending, line.cdir := .drive, line.txn := some ⟨f, o⟩ }

/-- The location of a role, for a slot that offers itself. -/
def Part.location (p : Part) (r : Role) : Location :=
  match p.driveMap with
  | some m => m.get r
  | none => ⟨0, 0⟩

/-- The DRIVE frame of a slot (R145): its channel and its outgoing value. -/
def Part.slotFrame (p : Part) (r : Role) : Frame :=
  driveFrame 1 (p.location r).node (p.location r).channel ((p.slot r).outgoing.getD 0)

/-- The POLL frame to a node (R181). -/
def pollFrame (node : Nat) : Frame := ⟨BitVec.ofNat 8 node, 1, kindPoll, []⟩

/-- A relayed frame to an owned role with the value the interlock lets out (R156, R184). -/
def Part.screenedFrame (p : Part) (f : Frame) (r : Role) (v : Nat) : Frame :=
  { f with payload := f.payload.take 1 ++ u16 (p.relayValue r v) }

/-! ## The line arbiter (R180) -/

/-- What the arbiter takes. -/
inductive Candidate where
  | slot (r : Role)
  | relay (f : Frame) (rest : List Frame)
  | poll (node : Nat)
deriving DecidableEq, Repr

/-- The earlier of two due polls; of equal ones the first stands. -/
def earlierPoll : Option (Nat × Nat) → Nat × Nat → Option (Nat × Nat)
  | none, x => some x
  | some a, x => if x.2 < a.2 then some x else some a

/-- The due poll with the earliest next-due time, the lowest address among equals, in a mode in which
polls go out (R181). -/
def Part.duePoll (p : Part) : Option Nat :=
  if p.polls then
    ((p.line.times.filter fun x => decide (x.2 ≤ p.line.ms)).foldl earlierPoll none).map (·.1)
  else none

/-- The arbiter's choice. -/
def Part.choose (p : Part) : Option Candidate :=
  match p.offering with
  | some r => some (.slot r)
  | none =>
    match p.line.relay, p.duePoll with
    | f :: rest, none => some (.relay f rest)
    | f :: rest, some n => if p.line.lastTaken = .poll then some (.relay f rest) else some (.poll n)
    | [], some n => some (.poll n)
    | [], none => none

/-- The next-due time of a node replaced. -/
def setDue (times : List (Nat × Nat)) (node due : Nat) : List (Nat × Nat) :=
  times.map fun x => if x.1 = node then (node, due) else x

/-- The head of the relay queue is taken: sent, or answered by the part itself (R184). -/
def Part.takeQueued (p : Part) (f : Frame) (rest : List Frame) : Part :=
  let q := { p with line.relay := rest, line.lastTaken := .relay }
  match q.policy f with
  | .pass none => q.send f (.relay none)
  | .pass (some (r, v)) => q.send (q.screenedFrame f r v) (.relay (some r))
  | .refuse s => q.refuseRelay f s
  | .absorb r v => q.absorbRelay f r v

/-- A poll is taken (R181). -/
def Part.takePoll (p : Part) (node : Nat) : Part :=
  ({ p with
      line.lastTaken := .poll
      line.times := setDue p.line.times node (p.line.ms + p.pathTuning.pollPeriod) }).send
    (pollFrame node) .poll

/-- A candidate is taken. -/
def Part.take (p : Part) : Candidate → Part
  | .slot r => p.send (p.slotFrame r) (.slot r)
  | .relay f rest => p.takeQueued f rest
  | .poll n => p.takePoll n

/-- The arbiter takes candidates until the line is busy or nothing waits: each frame that is not sent
leaves the line FREE and the arbiter chooses again at once. -/
def Part.arbitrate : Nat → Part → Part
  | 0, p => p
  | n + 1, p =>
    if p.line.state = .free then
      match p.choose with
      | none => p
      | some c => Part.arbitrate n (p.take c).screenAll
    else p

/-- The end of every event: the asks are placed (R146), every slot is screened (R151), and the arbiter
takes what waits while the line is FREE (R180). -/
def Part.settle (p : Part) : Part :=
  let q := p.placeAsks.screenAll
  q.arbitrate (q.line.relay.length + 1)

/-! ## The last stop bit (R145, R156, R177) -/

/-- The reports of a value sent: COMP to the arbiter, HEATER to the sequencer. -/
def Part.report (p : Part) (r : Role) (v : Nat) : Part :=
  match r with
  | .comp => p.reportComp v
  | .heater => p.reportHeater v
  | _ => p

/-- The value that a DRIVE frame carries. -/
def carried (f : Frame) : Nat :=
  match drivePayload f.payload with
  | some (_, v) => v
  | none => 0

/-- A transaction's value counts as sent. -/
def Part.valueSent (p : Part) (t : Txn) : Part :=
  match t.origin with
  | .poll => p
  | .slot r => ((p.recordSent r (carried t.frame)).slotSent r).report r (carried t.frame)
  | .relay none => p
  | .relay (some r) => (p.recordSent r (carried t.frame)).report r (carried t.frame)

/-- The last stop bit of the part's frame goes out. -/
def Part.frameSent (p : Part) : Part :=
  match p.line.state, p.line.txn with
  | .sending, some t =>
    ({ p with
        line.state := .awaiting
        line.window := some 20
        line.cdir := .receive }).valueSent t
  | _, _ => p

/-! ## The end of a transaction (R177, R179, R185) -/

/-- The line is FREE again. -/
def Part.endTxn (p : Part) : Part :=
  { p with line.state := .free, line.txn := none, line.window := none }

/-- The destination that the reply of a transaction has. -/
def TxnOrigin.replyTo : TxnOrigin → Byte
  | .relay _ => 0
  | _ => 1

/-- A received frame is the reply of a transaction. -/
def Txn.answeredBy (t : Txn) (f : Frame) : Bool :=
  decide (f.src = t.frame.dst ∧ f.dst = t.origin.replyTo ∧ f.payload.length ≤ 40)

/-- A relayed DRIVE STATUS of an owned role is also taken in. -/
def Part.intakeRelayed (p : Part) (o : Option Role) (sent reply : Frame) : Part :=
  match o with
  | some r => if reply.kind = kindDriveStatus then p.intake r sent reply else p
  | none => p

/-- The outcome of a transaction that ended answered. -/
def Part.handReply (p : Part) (t : Txn) (f : Frame) : Part :=
  match t.origin with
  | .poll => if f.kind = kindSample then p.takeSampleReply f else p
  | .slot r => if f.kind = kindDriveStatus then p.intake r t.frame f else p
  | .relay o => (p.placeReply ⟨.relayed, f⟩).intakeRelayed o t.frame f

/-- NO_ANSWER for a relay frame. -/
def Part.noAnswer (p : Part) (f : Frame) : Part := p.relayReply f .noAnswer []

/-- The outcome of a transaction that ended by timeout. For the location of COMP the answer and the
hand-off to the intake come in an order the spec leaves open. -/
def Part.handTimeout (p : Part) (t : Txn) : Part :=
  match t.origin with
  | .poll => p
  | .slot r => p.intakeTimeout r
  | .relay (some .comp) => p.inEitherOrder (fun q => q.noAnswer t.frame) (fun q => q.intakeTimeout .comp)
  | .relay _ => p.noAnswer t.frame

/-- The transaction ends by timeout. -/
def Part.timeOut (p : Part) : Part :=
  match p.line.txn with
  | some t => p.endTxn.handTimeout t
  | none => p.endTxn

/-- A frame that is no reply has been received: with the window run out the wait ends by timeout at its
end, otherwise nothing happens (R177, R178). -/
def Part.discardCabinet (p : Part) : Part :=
  if p.line.state = .awaiting ∧ p.line.window = some 0 then p.timeOut else p

/-- A frame with a good check and length has been received on CRX. -/
def Part.receive (p : Part) (f : Frame) : Part :=
  match p.line.state, p.line.txn with
  | .awaiting, some t => if t.answeredBy f then p.endTxn.handReply t f else p.discardCabinet
  | _, _ => p

/-- The reply window closes: its remaining milliseconds have passed. -/
def Part.closeWindow (p : Part) : Part :=
  if p.line.state = .awaiting then
    ({ p with line.ms := p.line.ms + p.line.window.getD 0 }).timeOut
  else p

/-! ## Millisecond time (R175, R181; log entry 1) -/

/-- Milliseconds pass on the scheduler's own time. -/
def Part.passMs (p : Part) (n : Nat) : Part :=
  { p with line.ms := p.line.ms + n, line.window := p.line.window.map (· - n) }

/-- The next-due time of a listed node comes: the scheduler's time is at least that time. -/
def Part.reachDue (p : Part) (node : Nat) : Part :=
  match dueTime p.line.times node with
  | some t => p.passMs (t - p.line.ms)
  | none => p

/-- With no command waiting one millisecond passes, and the arbiter takes a poll that it makes due. -/
def Part.idle (p : Part) : Part := (p.passMs 1).settle

/-- Next-due times later than a whole period from now are brought forward to that moment (R181). -/
def bringForward (times : List (Nat × Nat)) (latest : Nat) : List (Nat × Nat) :=
  times.map fun x => if latest < x.2 then (x.1, latest) else x

end Sys2Proof.Machine
end

