-- ==== Sys2Proof/Machine/Query.lean ====
section
/-! DEFINITION. What IDENTIFY and QUERY report (R24, R71, R104, R125, R133, R173, R205): the data of each
subject in the order its owning rule lists it, and its pages. The width of each field is that of R188; where
R188 leaves a width open, and for the marks and lengths in front of optional and repeated parts, log entry 7. -/

namespace Sys2Proof.Machine

/-! ## Pieces -/

/-- A record or none: a mark byte, and the record's bytes when there is one (log entry 7). -/
def optRecord {α : Type} (f : α → List Byte) : Option α → List Byte
  | none => markByte false
  | some x => markByte true ++ f x

/-- A repeated part: its length in one byte and then its parts (log entry 7). -/
def listBytes {α : Type} (f : α → List Byte) (l : List α) : List Byte := u8 l.length ++ (l.map f).flatten

/-- The resolved value or none, its source and the links used (R1: 0 with no value). -/
def resolvedBytes (r : Option Resolved) : List Byte :=
  optI16 (r.map (·.value)) ++ optU8 (r.map (·.source.val)) ++
    u8 (match r with | some x => x.links | none => 0)

/-- A mark's weight in a set. -/
def weight (b : Bool) (n : Nat) : Nat := if b then 2 ^ n else 0

/-- A set given by its marks, its first at weight 1. -/
def weights : Nat → List Bool → Nat
  | _, [] => 0
  | n, b :: l => weight b n + weights (n + 1) l

/-- A set as one 16-bit number (log entry 7). -/
def setBytes (l : List Bool) : List Byte := u16 (weights 0 l)

/-- The members of a set of causes. -/
def Causes.marks (c : Causes) : List Bool := [c.driveFault, c.driveSilent, c.hostTrip]

/-- The members of a set of compartments. -/
def Comps.marks (v : Comps Bool) : List Bool := [v.ff, v.cd, v.fz]

/-- The members of a set of doors. -/
def Doors.marks (v : Doors Bool) : List Bool := [v.ffL, v.ffR, v.cd, v.fz]

/-- The members of a set of roles. -/
def Roles.marks (v : Roles Bool) : List Bool :=
  [v.comp, v.valve, v.heater, v.fanFF, v.fanFZ, v.fanCond, v.damperCD]

/-- The four doors in their order. -/
def allDoors : List DoorId := [.ffL, .ffR, .cd, .fz]

/-- The twenty-one tables in the order of their ids. -/
def allTables : List TableId :=
  [0, 1, 2, 3, 4, 5, 6, 7, 8, 9, 10, 11, 12, 13, 14, 15, 16, 17, 18, 19, 20]

/-! ## Entries in force -/

/-- The fields of a tuning in the order of R46. -/
def Tuning.fields (t : Tuning) : List Int :=
  [t.dIn, t.dOut, t.eUrg, t.eFull, t.fan, t.blindOn, t.blindOff, t.warmTemp, t.warmDelay, t.doorMin,
    t.doorOffset, t.doorDuration]

/-- The bytes of a tuning. -/
def Tuning.bytes (t : Tuning) : List Byte := writeEntry (tableForms tCmpTuning) t.fields

/-- The fields of the DEFROST_SET entry in the order of R107. -/
def DefrostSet.fields (d : DefrostSet) : List Int :=
  [d.firstInterval, d.doorWeight, d.terminate, d.recoverFan, d.recoverTime, d.maxDeferral]

/-- The fields of the TRIP_SET entry in the order of R163. -/
def TripSet.fields (t : TripSet) : List Int :=
  [if t.holdFF then 1 else 0, if t.holdFZ then 1 else 0, if t.holdCond then 1 else 0,
    if t.holdDamper then 1 else 0, if t.autoRearm then 0 else 1, t.rearmDelay]

/-! ## Subjects -/

/-- The seconds since a point's last sample, saturating at 65 534, or 65 535 for never (R24). -/
def Part.sinceSample (p : Part) (x : Point) : Nat :=
  match x.lastSecond with
  | none => 65535
  | some t => min 65534 (p.elapsed t)

/-- The point subject (R24). DESIGN CHOICE (log entry 7): the filtered and the resolved value of a door point, 0 or 1, are
signed 16-bit numbers as those of a temperature point are. -/
def Part.pointData (p : Part) (i : PointId) : List Byte :=
  let x := p.point i
  u8 i.val ++ u8 x.state.code ++ i16 x.filtered ++ optU16 x.lastRaw ++ u16 (p.sinceSample x) ++
    timerBytes x.stale ++ resolvedBytes x.resolved ++
    (if (airComp i).isSome then markByte x.lost else []) ++
    optU8 (p.pointSet[i].fallback.map (·.val)) ++ u16 p.pointSet[i].staleTime

/-- An override entry (R71). -/
def Override.bytes (o : Override) : List Byte :=
  u8 o.kind.code ++ i16 o.value ++ u16 o.duration ++ u16 o.remaining ++ u8 o.origin.code ++ u8 o.tag.code

/-- The claim that a compartment serves (R71): FF the FF claim, CD and FZ the FZ claim. DESIGN CHOICE (log
entry 39): R71's "raised or withdrawn" is coded as R106's list is, raised 0, and "urgent or not" as a mark. -/
def Part.claimBytes (p : Part) (c : Comp) : List Byte :=
  match c with
  | .ff => claimByte p.ffClaim ++ markByte p.comps.ff.urgent
  | _ => claimByte p.fzClaim ++ markByte p.fzClaimUrgent

/-- The compartment subject (R71). DESIGN CHOICE (log entry 7): the error is a signed 16-bit number, as a temperature is. -/
def Part.compData (p : Part) (c : Comp) : List Byte :=
  let r := p.comp c
  i16 r.base ++ i16 r.spMin ++ i16 r.spMax ++ i16 r.effective ++
    listBytes Override.bytes r.stack.reverse ++
    optI16 r.air ++ markByte r.lost ++ optI16 r.error ++ u8 r.demand.code ++ markByte r.urgent ++
    timerBytes r.blind ++ u8 r.warm.code ++ u16 r.warmCount ++ r.tuning.bytes ++
    optRecord Tuning.bytes r.pending ++ p.claimBytes c

/-- The path subject (R104). DESIGN CHOICE (log entry 39): whether a claimant is raised, and whether the recover claim is,
are written as marks, 1 when raised; and (log entry 7) a class takes one byte. -/
def Part.pathData (p : Part) : List Byte :=
  let r := p.path
  u8 r.state.code ++ optU8 (r.holder.map Claimant.code) ++ optU8 r.holderClass ++ u8 r.valve.code ++
    markByte r.runStarted ++ markByte r.satisfied ++
    timerBytes r.switchTimer ++ timerBytes r.minHold ++ timerBytes r.maxHold ++
    listBytes (fun k => u8 k.code ++ u8 (r.claims.get k).cls) r.queue ++
    markByte r.claims.ff.raised ++ u8 r.claims.ff.cls ++
    markByte r.claims.fz.raised ++ u8 r.claims.fz.cls ++ markByte r.recover ++
    markByte r.claims.df.raised ++ u8 r.claims.df.cls ++
    u16 r.speed ++ optU16 r.prevSpeed ++ u16 r.divider ++ markByte r.shed ++ u16 p.ceiling ++
    u16 p.pathLimits.sMin ++ u16 p.pathLimits.sMax ++
    optU16 p.slots.comp.sent ++ optU8 p.slots.valve.sent

/-- The last-defrost record (R106). -/
def LastDefrost.bytes (d : LastDefrost) : List Byte :=
  u16 d.heatTime ++ u16 d.holdUsed ++ u8 d.cause.code ++
    u32 (d.interval.getD 4294967295) ++ u32 d.second.toNat

/-- For DUE whether the deferral has run out (R125), none in the other phases. -/
def Part.deferralOut (p : Part) : Option Nat :=
  if p.defrost.phase = .due then
    match p.defrost.dueSince with
    | some t => some (if p.defrostSet.maxDeferral ≤ p.elapsed t then 1 else 0)
    | none => none
  else none

/-- The defrost subject (R125). DESIGN CHOICE: the working copy is reported as its used rows alone (log entry 38),
and the deferral outside DUE as none, 255 (log entry 7); in DUE it is written as a mark, 1 when it has run out (log entry
39). -/
def Part.defrostData (p : Part) : List Byte :=
  let d := p.defrost
  u8 d.phase.code ++ u32 d.accumulation ++ u32 d.interval ++ optSecond d.dueSince ++
    markByte d.shedCopy ++ optU8 p.deferralOut ++ claimByte d.dfClaim ++ claimByte d.recoverClaim ++
    u16 d.heatTime ++ u16 d.budget ++ timerBytes d.drip ++ timerBytes d.recover ++
    optI16 d.coil ++ markByte d.heater ++ optRecord LastDefrost.bytes d.last ++
    writeEntry (tableForms tDefrostSet) p.defrostSet.fields ++
    listBytes (fun r => u16 r.heatLimit ++ u32 r.interval) p.intervals

/-- The level of a door record: open 0, closed 1, its place in the list of R127. -/
def DoorRec.levelByte (d : DoorRec) : List Byte := u8 (if d.isOpen then 0 else 1)

/-- One door of the door subject (R133). A timer that R138 holds with its remaining time is reported with that time,
which is the model's choice (log entry 7). -/
def Part.doorBytes (p : Part) (i : DoorId) : List Byte :=
  let d := p.door i
  let s := p.doorSet.get i
  d.levelByte ++ optSecond d.openSince ++ optU16 d.width ++ optU8 (d.widthLevel.map WidthLevel.code) ++
    markByte d.unread ++ markByte d.overcapture ++ timerBytes d.fanStop ++ markByte d.stopActive ++
    timerBytes d.ajar ++ markByte d.ajarMark ++ u16 s.fanStopDelay ++ u16 s.ajarTime

/-- The door subject (R133). DESIGN CHOICE (log entry 39): the state of each door-stop condition is written as a mark, 1
while it holds, and so is the DOOR_AJAR flag, 1 while it is set. -/
def Part.doorData (p : Part) : List Byte :=
  (allDoors.map p.doorBytes).flatten ++
    markByte p.ffStop ++ markByte p.fzStop ++ markByte p.cdStop ++
    markByte (p.hasFlag .doorAjar) ++ setBytes p.details.ajar.marks

/-- The details of the flags that carry one, in the order of R201. STACK's pairs stand overflow before
underflow, compartment by compartment. -/
def Details.bytes (d : Details) : List Byte :=
  setBytes d.sensor.toList ++ setBytes d.blind.marks ++
    setBytes [d.overflow.ff, d.underflow.ff, d.overflow.cd, d.underflow.cd, d.overflow.fz, d.underflow.fz] ++
    setBytes d.warm.marks ++ u16 d.defrostLong ++ setBytes d.ajar.marks ++ setBytes d.trip.marks ++
    setBytes d.drive.marks ++ setBytes [d.drop.readings, d.drop.reply, d.drop.relay] ++
    u32 (weights 0 d.load.toList)

/-- The first five fields of the last-refusal record (R203). -/
def RefusalRec.bytes (r : RefusalRec) : List Byte :=
  [r.code, r.source, r.dest, r.status] ++ u32 r.second.toNat

/-- The last-trip record (R162). -/
def LastTrip.bytes (t : LastTrip) : List Byte :=
  optU8 (t.first.map Cause.code) ++ setBytes t.causes.marks ++ optSecond t.second ++ u8 t.how.code

/-- The trip unit's record (R173). -/
def Part.tripData (p : Part) : List Byte :=
  let t := p.trip
  u8 t.state.code ++ optU8 (t.first.map Cause.code) ++ optSecond t.second ++ setBytes t.causes.marks ++
    u16 t.silent ++ timerBytes t.absence ++ u16 t.rearms ++ timerBytes t.clean ++
    optRecord LastTrip.bytes t.last ++ writeEntry (tableForms tTripSet) p.tripSet.fields

/-- A set of flags as one 16-bit number (R188). -/
def flagBytes (f : BitVec 12) : List Byte := u16 f.toNat

/-- The faults subject (R205). DESIGN CHOICE (log entry 7): the twelve flags stand as one set, and the details of the ten
that have one follow it in the order of the rows. -/
def Part.faultsData (p : Part) : List Byte :=
  flagBytes p.flags ++ p.details.bytes ++ flagBytes p.mask ++ markByte p.attention ++
    optRecord RefusalRec.bytes p.refusal ++ u16 p.refusals ++ p.tripData

/-- The load record (R195, R205). DESIGN CHOICE (log entry 7): with no load open it is written in its place with no mark
byte before it, table none 255, cursor none 255 and the timer stopped. -/
def Part.loadBytes (p : Part) : List Byte :=
  match p.load with
  | none => u8 255 ++ u8 255 ++ timerBytes .stopped
  | some l => u8 l.table.val ++ u8 l.cursor ++ timerBytes l.timer

/-- The table directory subject (R205); an entry count takes two bytes, as R188 gives a count. DESIGN CHOICE (log entry 7):
the lock level of a table and the one in force take one byte, as R190 gives a level among the arguments. -/
def Part.directoryData (p : Part) : List Byte :=
  (allTables.map fun t => u16 (entryCount t) ++ u8 (lockLevelOf t) ++ u8 (p.table t).state.code).flatten ++
    u8 p.activeMap.code ++ u8 p.lockLevel ++ markByte p.lockWritten ++ p.loadBytes

/-- The subjects of QUERY (R205), coded by their place in its list. -/
inductive Subject where
  | point (i : PointId)
  | comp (c : Comp)
  | path
  | defrost
  | door
  | faults
  | directory
deriving DecidableEq, Repr

/-- A subject with its item; none for an unknown subject or an item out of its range. -/
def subjectOf (subject item : Byte) : Option Subject :=
  match subject.toNat with
  | 0 => (pointOf item).map .point
  | 1 => (compOf item).map .comp
  | 2 => some .path
  | 3 => some .defrost
  | 4 => some .door
  | 5 => some .faults
  | 6 => some .directory
  | _ => none

/-- The whole data of a subject. -/
def Part.subjectData (p : Part) : Subject → List Byte
  | .point i => p.pointData i
  | .comp c => p.compData c
  | .path => p.pathData
  | .defrost => p.defrostData
  | .door => p.doorData
  | .faults => p.faultsData
  | .directory => p.directoryData

/-! ## Pages (R205) -/

/-- How many bytes a page holds. -/
def pageSize : Nat := 35

/-- The number of pages of some data. -/
def pageCount (data : List Byte) : Nat := (data.length + (pageSize - 1)) / pageSize

/-- A page of some data. -/
def pageBytes (data : List Byte) (n : Nat) : List Byte := (data.drop (n * pageSize)).take pageSize

/-! ## The two requests -/

/-- The mode and the SHOWROOM origin. -/
def Part.modeBytes (p : Part) : List Byte := u8 p.mode.code ++ optU8 (p.origin.map Origin.code)

/-- IDENTIFY (R205). DESIGN CHOICE (log entry 7): the vendor code, the part code, the revision, the part's address and the
lock level take one byte each. -/
def Part.identifyData (p : Part) : List Byte :=
  u8 83 ++ u8 30 ++ u8 1 ++ u8 1 ++ p.modeBytes ++ u8 p.lockLevel ++ markByte p.lockWritten ++
    optU8 (p.load.map (·.table.val)) ++ u32 p.seconds.toNat

/-- QUERY (R205). -/
def Part.queryRequest (a : QueryArgs) (p : Part) : Answer :=
  match subjectOf a.subject a.item with
  | none => p.refuse .range
  | some s =>
    let data := p.subjectData s
    if a.page.toNat < pageCount data then
      p.accept (u8 a.page.toNat ++ u8 (pageCount data) ++ pageBytes data a.page.toNat)
    else p.refuse .range

end Sys2Proof.Machine
end

