-- ==== Sys2Proof/Machine/Session.lean ====
section
/-! DEFINITION. The management unit's own requests (spec/10): IDENTIFY, QUERY, SET MODE with what each block
does at a change of mode, SET LOCK, WARM RESTART, CLEAR FAULTS, SET ATTENTION MASK, DOOR READ, unknown name
codes, discarded frames, and the transmission of the egress queue. -/

namespace Sys2Proof.Machine

/-- The outcome of a command: the part at the end of the event, the waiting commands untouched. -/
def State.after (s : State) (p : Part) : Host.Outcome State Fault Refusal :=
  .next { s with part := p.settle }

/-! ## Changes of mode (R193) -/

/-- Leaving REGULATE at the arbiter (R102); another change to SERVICE, BYPASS or SHOWROOM gives the path
the state of R77, and an entry from SERVICE to PARKED places its speed request of 0. -/
def Part.pathLeaves (p : Part) (old : Mode) : Part :=
  if old = .regulate then p.leaveRegulate
  else if p.mode = .regulate then p
  else
    let q := { p with path.state := p.idleState }
    if old = .service then q.ask .comp 0 else q

/-- The point unit at a change of mode (R14). -/
def Part.pointsChange (p : Part) (old : Mode) : Part :=
  if p.mode = .bypass then p.stopStale
  else if p.mode = .regulate ∧ old = .bypass then p.unseeAll
  else p

/-- The compartment unit at a change of mode (R65). -/
def Part.compsChange (p : Part) (old : Mode) : Part :=
  match p.mode, old with
  | .bypass, _ => (p.setComps fun _ r => r.hold).handClaims
  | .showroom, _ => (p.setComps fun _ r => r.hold).handClaims
  | .regulate, .bypass => (p.setComps fun _ r => r.await).handClaims
  | .regulate, .showroom => (p.raiseBlindLost.setComps fun _ r => r.resume).handClaims
  | _, _ => p

/-- The defrost sequencer at a change of mode (R123). -/
def Part.defrostChange (p : Part) : Part :=
  match p.mode with
  | .bypass => p.cutDefrost .abortedMode
  | .showroom => if p.defrost.phase = .recover then p.endRecover else p
  | _ => p

/-- The drive unit at a change of mode (R146); REGULATE's asks follow at the end of the event. -/
def Part.slotsChange (p : Part) : Part :=
  match p.mode with
  | .service => p.restRequests
  | .showroom => p.restRequests
  | _ => p

/-- The mode changes, and every block takes the change as one event. The take-up of an entry to REGULATE
stands last, so that it counts the claims of the same change (R103). -/
def Part.changeMode (p : Part) (m : Mode) (o : Option Origin) : Part :=
  let q := ((((({ p with mode := m, origin := o }).pathLeaves p.mode).pointsChange p.mode).compsChange
    p.mode).defrostChange).slotsChange
  if m = .regulate then q.enterRegulate else q

/-- "Maps valid": the active map and DRIVE_MAP both stand VALID in the directory. -/
def Part.mapsValid (p : Part) : Bool :=
  (p.table p.activeMap.table).state = .valid && (p.table tDriveMap).state = .valid

/-- An accepted SET MODE: its reply gives the mode and the origin after the request. -/
def Part.acceptMode (p : Part) (m : Mode) (o : Option Origin) : Answer :=
  let q := p.changeMode m o
  q.accept q.modeBytes

/-- The mode of a SHOWROOM origin. -/
def Origin.mode : Origin → Mode
  | .bypass => .bypass
  | .regulate => .regulate

/-- SET MODE with a target of its list (R193). -/
def Part.decideMode (p : Part) : ModeTarget → Answer
  | .release =>
    match p.mode, p.origin with
    | .showroom, some o => p.acceptMode o.mode none
    | _, _ => p.refuse .mode
  | .mode m =>
    if p.mode = m then p.accept p.modeBytes
    else match p.mode, m with
      | .bypass, .regulate => if p.mapsValid then p.acceptMode .regulate none else p.refuse .invalid
      | .bypass, .showroom => p.acceptMode .showroom (some .bypass)
      | .regulate, .bypass => p.acceptMode .bypass none
      | .regulate, .service =>
        if p.defrost.phase.busy then p.refuse .busy else p.acceptMode .service none
      | .regulate, .showroom =>
        if p.defrost.phase.busy then p.refuse .busy else p.acceptMode .showroom (some .regulate)
      | .service, .bypass => p.acceptMode .bypass none
      | .service, .regulate => if p.mapsValid then p.acceptMode .regulate none else p.refuse .invalid
      | _, _ => p.refuse .mode

/-- SET MODE (R193). -/
def Part.setModeRequest (b : Byte) (p : Part) : Answer :=
  match targetOf b with
  | none => p.refuse .range
  | some t => p.decideMode t

/-- The one SET MODE that SHOWROOM does not refuse: target RELEASE (R191). -/
def isRelease : Args Byte → Bool
  | .form b => targetOf b = some .release
  | .illFormed => false

/-! ## The other requests -/

/-- SET LOCK (R200). -/
def Part.setLockRequest (b : Byte) (p : Part) : Answer :=
  if p.lockWritten then p.refuse .locked
  else if 3 < b.toNat then p.refuse .range
  else Part.accept { p with lockLevel := b.toNat, lockWritten := true } []

/-- CLEAR FAULTS (R202): the reply gives the flags set after the request. -/
def Part.clearFaultsRequest (h : Half) (p : Part) : Answer :=
  match flagsOf h with
  | none => p.refuse .range
  | some f => (p.clearFlags f).accept (flagBytes (p.clearFlags f).flags)

/-- SET ATTENTION MASK (R202). -/
def Part.setMaskRequest (h : Half) (p : Part) : Answer :=
  match flagsOf h with
  | none => p.refuse .range
  | some f => Part.accept { p with mask := f } []

/-- What DOOR READ gives of a door (R132), field by field. -/
def Part.captureFields (p : Part) (i : DoorId) : List (List Byte) :=
  let d := p.door i
  [d.levelByte] ++ (if d.isOpen then [optSecond d.openSince, u16 (p.openWidth d)] else []) ++
    [optU16 d.width, optU8 (d.widthLevel.map WidthLevel.code), markByte d.unread, markByte d.overcapture,
      markByte d.stopActive, markByte d.ajarMark]

/-- The list of R132: the captures of the four doors in door order. -/
def Part.captureList (p : Part) : List (List Byte) := (allDoors.map p.captureFields).flatten

/-- The fields of a list, in their order, that are chosen by the number of fields behind them and still find room. -/
def keptFields (choice : Nat → Bool) : Nat → List (List Byte) → List (List Byte)
  | _, [] => []
  | room, f :: fs =>
    if choice fs.length = true ∧ f.length ≤ room then f :: keptFields choice (room - f.length) fs
    else keptFields choice room fs

/-- The data of a DOOR READ's reply: the list of R132, whole where a REPLY has room for it (R188), as with every door
closed. With a door open the list is longer than that. R188's room stands, and which fields the reply then carries
is open: a free value chooses among all that find room. DESIGN CHOICE (log entry 11). -/
def Part.doorReadData (p : Part) : List Byte :=
  let list := p.captureList
  if list.flatten.length ≤ replyRoom then list.flatten
  else (keptFields (Config.carriesCapture list.flatten) replyRoom list).flatten

/-- DOOR READ (R132): the captures as they stood, and then every unread and overcapture mark is cleared. -/
def Part.doorReadRequest (_ : Unit) (p : Part) : Answer :=
  Part.accept { p with doors := p.doors.mapWith fun _ d => d.read } p.doorReadData

/-- WARM RESTART as a request (R206): its OK is marked as the reply that the restart waits for. -/
def Part.warmRestartRequest (p : Part) (a : Args Unit) : Part :=
  if p.restartPending then p
  else if p.hasPlace = false then p.dropReply
  else
    let r := p.judge false a fun _ q => q.accept []
    if r.status.accepted then
      { p.placeReply ⟨.restartReply, p.replyFrame codeWarmRestart .ok []⟩ with restartPending := true }
    else r.finish codeWarmRestart

/-! ## MTX (R189, R192) -/

/-- The OK that a pending restart waits for still stands in the queue. -/
def Part.restartWaits (p : Part) : Bool := p.egress.any fun e => decide (e.sort = .restartReply)

/-- The head of the egress queue leaves it as its transmission begins. Behind the OK of a WARM RESTART
nothing follows: the restart takes effect at that frame's last stop bit. -/
def Part.transmit (p : Part) : Part :=
  if p.restartPending ∧ p.restartWaits = false then p
  else match p.egress with
    | [] => p
    | e :: rest => { p with egress := rest, mtx := some e }

/-! ## Meanings -/

/-- IDENTIFY (R205). -/
def execIdentify (a : Args Unit) (s : State) : Host.Outcome State Fault Refusal :=
  s.after (s.part.request codeIdentify true a fun _ p => p.accept p.identifyData)

/-- QUERY (R205). -/
def execQuery (a : Args QueryArgs) (s : State) : Host.Outcome State Fault Refusal :=
  s.after (s.part.request codeQuery true a Part.queryRequest)

/-- SET_MODE (R193). -/
def execSetMode (a : Args Byte) (s : State) : Host.Outcome State Fault Refusal :=
  s.after (s.part.request codeSetMode (isRelease a) a Part.setModeRequest)

/-- SET_LOCK (R200). -/
def execSetLock (a : Args Byte) (s : State) : Host.Outcome State Fault Refusal :=
  s.after (s.part.request codeSetLock false a Part.setLockRequest)

/-- WARM_RESTART (R206). -/
def execWarmRestart (a : Args Unit) (s : State) : Host.Outcome State Fault Refusal :=
  s.after (s.part.warmRestartRequest a)

/-- CLEAR_FAULTS (R202). -/
def execClearFaults (a : Args Half) (s : State) : Host.Outcome State Fault Refusal :=
  s.after (s.part.request codeClearFaults false a Part.clearFaultsRequest)

/-- SET_ATTENTION_MASK (R202). -/
def execSetAttentionMask (a : Args Half) (s : State) : Host.Outcome State Fault Refusal :=
  s.after (s.part.request codeSetAttentionMask false a Part.setMaskRequest)

/-- DOOR_READ (R132). -/
def execDoorRead (a : Args Unit) (s : State) : Host.Outcome State Fault Refusal :=
  s.after (s.part.request codeDoorRead false a Part.doorReadRequest)

/-- UNKNOWN_REQUEST (R191): refused with UNKNOWN in every mode, before the other checks. -/
def execUnknownRequest (code : Byte) (s : State) : Host.Outcome State Fault Refusal :=
  s.after (s.part.request code true (.form ()) fun _ p => p.refuse .unknown)

/-- MAIN_FRAME_DISCARD (R189): no other effect. -/
def execMainFrameDiscard (s : State) : Host.Outcome State Fault Refusal := .next s

/-- EGRESS_TRANSMIT (R192). -/
def execEgressTransmit (s : State) : Host.Outcome State Fault Refusal := s.after s.part.transmit

end Sys2Proof.Machine
end

