-- ==== Sys2Proof/Machine/LineCommands.lean ====
section
/-! DEFINITION. The commands of the two links' relay traffic and of the cabinet line (spec/09). -/

namespace Sys2Proof.Machine

/-- RELAY_FRAME (R182). -/
def execRelayFrame (f : Frame) (s : State) : Host.Outcome State Fault Refusal := s.after (s.part.takeRelay f)

/-- POLL_DUE (R181). -/
def execPollDue (node : Byte) (s : State) : Host.Outcome State Fault Refusal :=
  s.after (s.part.reachDue node.toNat)

/-- CABINET_FRAME_SENT (R177). -/
def execCabinetFrameSent (s : State) : Host.Outcome State Fault Refusal := s.after s.part.frameSent

/-- CABINET_REPLY (R177). -/
def execCabinetReply (f : Frame) (s : State) : Host.Outcome State Fault Refusal := s.after (s.part.receive f)

/-- CABINET_FRAME_DISCARD (R178). -/
def execCabinetFrameDiscard (s : State) : Host.Outcome State Fault Refusal := s.after s.part.discardCabinet

/-- REPLY_WINDOW_TIMEOUT (R177). -/
def execReplyWindowTimeout (s : State) : Host.Outcome State Fault Refusal := s.after s.part.closeWindow

end Sys2Proof.Machine
end

