-- ==== Sys2Proof/Machine/Loads.lean ====
section
/-! DEFINITION. Tables over the main link (spec/10, R195 to R199; R39): TABLE OPEN, DATA, CLOSE, ABORT and READ,
what each block takes from a close, the load timer, and SWAP MAP. -/

namespace Sys2Proof.Machine

/-! ## Opening and writing -/

/-- TABLE OPEN accepted: LOADING, the load record set, its timer at 30 s (R195). -/
def Part.openTable (p : Part) (t : TableId) (start : Nat) : Part :=
  { p.setTable t { p.table t with state := .loading } with load := some ⟨t, start, .running 30⟩ }

/-- TABLE OPEN (R195). -/
def Part.tableOpenRequest (a : TableOpenArgs) (p : Part) : Answer :=
  match tableOf a.table with
  | none => p.refuse .range
  | some t =>
    if entryCount t ≤ a.start.toNat then p.refuse .range
    else if p.load.isSome then p.refuse .busy
    else if 0 < lockLevelOf t ∧ lockLevelOf t ≤ p.lockLevel then p.refuse .locked
    else if t = p.activeMap.table then p.refuse .inUse
    else (p.openTable t a.start.toNat).accept []

/-- The open load when a request names its table. -/
def Part.openLoad (p : Part) (b : Byte) : Option Load :=
  match p.load with
  | some l => if b.toNat = l.table.val then some l else none
  | none => none

/-- Entries stored in turn at the cursor, which wraps from the last index to 0 (R196): the entries of the
table and the cursor after them. -/
def storeEntries (count : Nat) : List (List Int) → Nat → List (List Int) → List (List Int) × Nat
  | [], c, table => (table, c)
  | e :: es, c, table => storeEntries count es (if c + 1 < count then c + 1 else 0) (table.set c e)

/-- TABLE DATA (R196). -/
def Part.tableDataRequest (a : TableDataArgs) (p : Part) : Answer :=
  match p.openLoad a.table with
  | none => p.refuse .notHeld
  | some l =>
    match readEntries (tableForms l.table) a.bytes.length a.bytes with
    | some (e :: es) =>
      let r := storeEntries (entryCount l.table) (e :: es) l.cursor (p.table l.table).entries
      Part.accept
        { p.setTable l.table { p.table l.table with entries := r.1 } with
          load := some { l with cursor := r.2, timer := .running 30 } } (u8 r.2)
    | _ => p.refuse .range

/-! ## What a close gives the blocks -/

/-- Three records replaced by what a close gives them, and the claims handed on. -/
def Part.compsTake (p : Part) (f : Comp → CompRec → CompRec) : Part := (p.setComps f).handClaims

/-- CMP_LIMITS (R48, R59): limits, base and effective setpoint, and the demand evaluated again. -/
def Part.takeLimits (p : Part) (t : Table) : Part :=
  p.compsTake fun c r => (r.takeLimits (t.fields (compCode c))).inActive p.active CompRec.reevaluate

/-- CMP_TUNING (R69, R70). -/
def Part.takeTunings (p : Part) (t : Table) : Part :=
  p.compsTake fun c r => r.takeTuning p.active (tuningOf c (t.fields (compCode c)))

/-- PATH_LIMITS (R75, R98, R115). -/
def Part.takePathLimits (p : Part) (t : Table) : Part :=
  (({ p with pathLimits := pathLimitsOf (t.fields 0) }).refitSpeed).checkTimeout

/-- PATH_TUNING (R76, R98, R181). -/
def Part.takePathTuning (p : Part) (t : Table) : Part :=
  let q := ({ p with pathTuning := pathTuningOf (t.fields 0) }).refitSpeed
  { q with line.times := bringForward q.line.times (q.line.ms + q.pathTuning.pollPeriod) }

/-- DEFROST_SET (R107). -/
def Part.takeDefrostSet (p : Part) (t : Table) : Part :=
  (({ p with defrostSet := defrostSetOf (t.fields 0) }).testDeferral).checkTermination

/-- A slot's location has moved (R142): the role stood elsewhere, or there was no working map. That the first working
map counts as a move of every role is the model's choice (log entry 37). -/
def movedRole (old : Option (Roles Location)) (new : Roles Location) (r : Role) : Bool :=
  match old with
  | none => true
  | some m => decide (m.get r ≠ new.get r)

/-- DRIVE_MAP closed VALID: the working map is replaced, and each role that has moved is marked
(R142). -/
def Part.takeDriveMap (p : Part) (t : Table) : Part :=
  let place (r : Role) : Location := locationOf (t.fields (roleCode r))
  let m : Roles Location :=
    ⟨place .comp, place .valve, place .heater, place .fanFF, place .fanFZ, place .fanCond, place .damperCD⟩
  { p with
    driveMap := some m
    slots := p.slots.mapWith fun r s => { s with moved := s.moved || movedRole p.driveMap m r } }

/-- DOOR_SET (R128). -/
def Part.takeDoorSet (p : Part) (t : Table) : Part :=
  { p with doorSet := ⟨doorSetting (t.fields 0), doorSetting (t.fields 1), doorSetting (t.fields 2),
      doorSetting (t.fields 3)⟩ }

/-- The owning block takes a closed table. The maps and the curves are read where they stand. -/
def Part.takeClose (p : Part) (id : TableId) (t : Table) : Part :=
  match id.val with
  | 10 => p.takePointSet (Vector.ofFn fun i => pointSetting (t.fields i.val))
  | 11 => if t.state = .valid then p.takeDriveMap t else p
  | 12 => { p with interlock := interlockSet (t.fields 0) }
  | 13 => p.takeTripSet (tripSetOf (t.fields 0))
  | 14 => p.takeLimits t
  | 15 => p.takePathLimits t
  | 16 => p.takeTunings t
  | 17 => p.takePathTuning t
  | 18 => p.takeDefrostSet t
  | 19 => if t.state = .valid then { p with intervals := usedRows t } else p
  | 20 => p.takeDoorSet t
  | _ => p

/-- The load record is cleared with the table closed, and its owner takes the outcome (R197). -/
def Part.closeLoad (p : Part) (id : TableId) : Part :=
  let t := closeTable id (p.table id)
  Part.takeClose { p.setTable id t with load := none } id t

/-- How many fields a close of the table changes. -/
def Part.closeChanges (p : Part) (id : TableId) : Nat :=
  entriesChanged (p.table id).entries (closeTable id (p.table id)).entries

/-- TABLE CLOSE (R197). -/
def Part.tableCloseRequest (b : Byte) (p : Part) : Answer :=
  match p.openLoad b with
  | none => p.refuse .notHeld
  | some l =>
    let n := p.closeChanges l.table
    ⟨p.closeLoad l.table, if n = 0 then .ok else .clamped,
      u8 l.table.val ++ u8 (closeTable l.table (p.table l.table)).state.code ++ u16 n⟩

/-! ## Failures (R198) -/

/-- The open load fails: its table INVALID with its entries as they are, LOAD raised. -/
def Part.failLoad (p : Part) : Part :=
  match p.load with
  | none => p
  | some l => Part.raiseLoad { p.setTable l.table { p.table l.table with state := .invalid } with load := none } l.table

/-- TABLE ABORT (R198). -/
def Part.tableAbortRequest (b : Byte) (p : Part) : Answer :=
  match p.openLoad b with
  | none => p.refuse .notHeld
  | some _ => p.failLoad.accept []

/-- The load timer's expiry. -/
def Part.expireLoad (p : Part) : Part :=
  match p.load with
  | some l => if l.timer.due then p.failLoad else p
  | none => p

/-! ## Reading (R199) -/

/-- `n` entries from an index on, wrapping from the last to 0. -/
def entriesFrom (count : Nat) (t : Table) : Nat → Nat → List (List Int)
  | 0, _ => []
  | n + 1, i => t.fields i :: entriesFrom count t n (if i + 1 < count then i + 1 else 0)

/-- TABLE READ (R199): the id and the start index take 2 of the 37 bytes of data. -/
def Part.tableReadRequest (a : TableReadArgs) (p : Part) : Answer :=
  match tableOf a.table with
  | none => p.refuse .range
  | some t =>
    if entryCount t ≤ a.start.toNat ∨ a.count.toNat = 0 ∨ 35 < a.count.toNat * entrySize t then
      p.refuse .range
    else
      p.accept (u8 t.val ++ u8 a.start.toNat ++
        ((entriesFrom (entryCount t) (p.table t) a.count.toNat a.start.toNat).map
          (writeEntry (tableForms t))).flatten)

/-! ## SWAP MAP (R39) -/

/-- SWAP MAP's own checks and effect. -/
def Part.swapRequest (b : Byte) (p : Part) : Answer :=
  match mapOf b with
  | none => p.refuse .range
  | some m =>
    if m = p.activeMap then p.accept []
    else match (p.table m.table).state with
      | .loading => p.refuse .busy
      | .invalid => p.refuse .invalid
      | .valid => (p.swapTo m).accept []

/-- The selector and the state of both maps. -/
def Part.mapBytes (p : Part) : List Byte :=
  u8 p.activeMap.code ++ u8 (p.table tMapA).state.code ++ u8 (p.table tMapB).state.code

/-- Every reply to SWAP MAP gives the selector after the request and the state of both maps. -/
def swapDress (r : Answer) : Answer := { r with data := r.part.mapBytes }

/-! ## Meanings -/

/-- TABLE_OPEN (R195). -/
def execTableOpen (a : Args TableOpenArgs) (s : State) : Host.Outcome State Fault Refusal :=
  s.after (s.part.request codeTableOpen false a Part.tableOpenRequest)

/-- TABLE_DATA (R196). -/
def execTableData (a : Args TableDataArgs) (s : State) : Host.Outcome State Fault Refusal :=
  s.after (s.part.request codeTableData false a Part.tableDataRequest)

/-- TABLE_CLOSE (R197). -/
def execTableClose (a : Args Byte) (s : State) : Host.Outcome State Fault Refusal :=
  s.after (s.part.request codeTableClose false a Part.tableCloseRequest)

/-- TABLE_ABORT (R198). -/
def execTableAbort (a : Args Byte) (s : State) : Host.Outcome State Fault Refusal :=
  s.after (s.part.request codeTableAbort false a Part.tableAbortRequest)

/-- TABLE_READ (R199). -/
def execTableRead (a : Args TableReadArgs) (s : State) : Host.Outcome State Fault Refusal :=
  s.after (s.part.request codeTableRead false a Part.tableReadRequest)

/-- SWAP_MAP (R39). -/
def execSwapMap (a : Args Byte) (s : State) : Host.Outcome State Fault Refusal :=
  s.after (s.part.request codeSwapMap false a Part.swapRequest swapDress)

/-- LOAD_TIMER_EXPIRY (R198). -/
def execLoadTimerExpiry (s : State) : Host.Outcome State Fault Refusal := s.after s.part.expireLoad

end Sys2Proof.Machine
end

