-- ==== Sys2Proof/Machine/Setpoints.lean ====
section
/-! DEFINITION. The requests to the compartment unit and the point unit: SET SETPOINT (R47), the three override
requests (R50, R52, R54), INJECT SAMPLE (R22, R23), and the expiries of their timers. -/

namespace Sys2Proof.Machine

/-! ## SET SETPOINT (R47) -/

/-- The value clamped into the compartment's limits. -/
def CompRec.intoLimits (r : CompRec) (v : Int) : Int := clampInt r.spMin r.spMax v

/-- The base setpoint stored and the effective setpoint recomputed. -/
def Part.storeBase (p : Part) (c : Comp) (v : Int) : Part :=
  ({ p with comps := p.comps.set c { p.comp c with base := v } }).recompute c

/-- SET SETPOINT (R47). -/
def Part.setSetpointRequest (a : SetpointArgs) (p : Part) : Answer :=
  p.withComp a.comp fun c =>
    let v := (p.comp c).intoLimits a.value.toInt
    let q := p.storeBase c v
    ⟨q, if v = a.value.toInt then .ok else .clamped, i16 v ++ i16 (q.comp c).effective⟩

/-! ## Overrides (R50, R52, R54) -/

/-- The values an override of a kind may have (R49). -/
def overrideRange (k : OverrideKind) (v : Int) : Bool :=
  match k with
  | .absolute => decide (-4000 ≤ v ∧ v ≤ 6000)
  | .offset => decide (-1000 ≤ v ∧ v ≤ 1000)

/-- The depth of a stack and the effective setpoint. -/
def Part.stackBytes (p : Part) (c : Comp) : List Byte :=
  u8 (p.comp c).stack.length ++ i16 (p.comp c).effective

/-- PUSH OVERRIDE (R50); a full stack raises STACK (R51). -/
def Part.pushRequest (a : PushArgs) (p : Part) : Answer :=
  p.withComp a.comp fun c =>
    match kindOf a.kind with
    | none => p.refuse .range
    | some k =>
      if overrideRange k a.value.toInt = false then p.refuse .range
      else if stackLimit ≤ (p.comp c).stack.length then (p.raiseOverflow c).refuse .full
      else
        let q := p.push c (newOverride k a.value.toInt a.duration.toNat .controller)
        q.accept (q.stackBytes c)

/-- POP OVERRIDE (R52). The number of SPENT entries that the trim removed takes two bytes, as R188 gives a count; the
stack depth takes one, which is the model's choice (log entry 7). -/
def Part.popRequest (b : Byte) (p : Part) : Answer :=
  p.withComp b fun c =>
    match (p.comp c).stack with
    | [] => (p.raiseUnderflow c).refuse .empty
    | o :: rest =>
      let q := p.setStack c (trim rest)
      q.accept (u8 o.kind.code ++ i16 o.value ++ u8 o.origin.code ++
        u16 (rest.length - (trim rest).length) ++ q.stackBytes c)

/-- A record with its stack emptied and the effective setpoint recomputed; an empty stack stays as it
is. -/
def CompRec.clearStack (r : CompRec) (active : Bool) : CompRec :=
  if r.stack = [] then r
  else
    let q : CompRec := { r with stack := [] }
    CompRec.inActive { q with effective := q.effectiveOf } active CompRec.reevaluate

/-- The compartments that CLEAR OVERRIDES names: one, or all three for 3 (R188). -/
def clearTargets (b : Byte) : Option (List Comp) :=
  if b.toNat = 3 then some [.ff, .cd, .fz] else (compOf b).map ([·])

/-- CLEAR OVERRIDES (R54). -/
def Part.clearRequest (b : Byte) (p : Part) : Answer :=
  match clearTargets b with
  | none => p.refuse .range
  | some l =>
    let q := p.compsTake fun c r => if l.contains c then r.clearStack p.active else r
    q.accept (l.map fun c => i16 (q.comp c).effective).flatten

/-! ## INJECT SAMPLE (R22, R23) -/

/-- The code of an injected sample's outcome: TAKEN 0, OUT_OF_SPAN 1, HELD 2 (R23). -/
def SampleOutcome.code : SampleOutcome → Nat
  | .taken => 0
  | .outOfSpan => 1
  | _ => 2

/-- INJECT SAMPLE (R22): an accepted one delivers its count through the targeting entry (R23). -/
def Part.injectRequest (a : InjectArgs) (p : Part) : Answer :=
  if p.active = false then p.refuse .mode
  else match pointOf a.point with
    | none => p.refuse .range
    | some i =>
      if 4095 < a.count.toNat then p.refuse .range
      else match p.entryFor i with
        | none => p.refuse .invalid
        | some e =>
          if e.protect then p.refuse .protectedPoint
          else
            let r := p.deliver ⟨i, a.count.toNat, e.curve, e.trim, e.shift⟩
            let x := r.1.point i
            r.1.accept (u8 r.2.code ++ u8 x.state.code ++ i16 x.filtered ++ resolvedBytes x.resolved)

/-! ## Meanings -/

/-- SET_SETPOINT (R47). -/
def execSetSetpoint (a : Args SetpointArgs) (s : State) : Host.Outcome State Fault Refusal :=
  s.after (s.part.request codeSetSetpoint false a Part.setSetpointRequest)

/-- PUSH_OVERRIDE (R50). -/
def execPushOverride (a : Args PushArgs) (s : State) : Host.Outcome State Fault Refusal :=
  s.after (s.part.request codePushOverride false a Part.pushRequest)

/-- POP_OVERRIDE (R52). -/
def execPopOverride (a : Args Byte) (s : State) : Host.Outcome State Fault Refusal :=
  s.after (s.part.request codePopOverride false a Part.popRequest)

/-- CLEAR_OVERRIDES (R54). -/
def execClearOverrides (a : Args Byte) (s : State) : Host.Outcome State Fault Refusal :=
  s.after (s.part.request codeClearOverrides false a Part.clearRequest)

/-- INJECT_SAMPLE (R22, R23). -/
def execInjectSample (a : Args InjectArgs) (s : State) : Host.Outcome State Fault Refusal :=
  s.after (s.part.request codeInjectSample false a Part.injectRequest)

/-- STALE_TIMER_EXPIRY (R11). -/
def execStaleTimerExpiry (i : PointId) (s : State) : Host.Outcome State Fault Refusal :=
  s.after (s.part.expireStale i)

/-- OVERRIDE_EXPIRY (R53). -/
def execOverrideExpiry (c : Comp) (slot : Nat) (s : State) : Host.Outcome State Fault Refusal :=
  s.after (s.part.expireOverride c slot)

/-- BLIND_TIMER_EXPIRY (R61). -/
def execBlindTimerExpiry (c : Comp) (s : State) : Host.Outcome State Fault Refusal :=
  s.after (s.part.expireBlind c)

/-- WARM_ALARM_EXPIRY (R67). -/
def execWarmAlarmExpiry (c : Comp) (s : State) : Host.Outcome State Fault Refusal :=
  s.after (s.part.expireWarm c)

end Sys2Proof.Machine
end

