-- ==== Sys2Proof/Machine/Regulation.lean ====
section
/-! DEFINITION. The requests and expiries of the path arbiter, the defrost sequencer, the door unit, the drive
unit and the trip unit. -/

namespace Sys2Proof.Machine

/-! ## Defrost requests (R111, R116, R118) -/

/-- The phase, the accumulation, the interval and the state of the DF claim (R111). -/
def Part.dueBytes (p : Part) : List Byte :=
  u8 p.defrost.phase.code ++ u32 p.defrost.accumulation ++ u32 p.defrost.interval ++
    claimByte p.defrost.dfClaim

/-- DEFROST START (R111). -/
def Part.defrostStartRequest (_ : Unit) (p : Part) : Answer :=
  match p.defrost.phase with
  | .idle => p.becomeDue.accept p.becomeDue.dueBytes
  | .due => p.accept p.dueBytes
  | _ => p.refuse .busy

/-- The heat time and the budget remaining. -/
def Part.heatBytes (p : Part) : List Byte := u16 p.defrost.heatTime ++ u16 p.defrost.budget

/-- DEFROST HOLD (R116): the heat time stops where it stands; a hold taken before a timeout that waits freezes a heat time
that has not yet reached its limit. -/
def Part.defrostHoldRequest (_ : Unit) (p : Part) : Answer :=
  if p.defrost.phase ≠ .heat then p.refuse .notHeld
  else if p.defrost.budget = 0 then p.refuse .budget
  else
    let q := { p.beforeTimeout with defrost.phase := .hold, defrost.heater := false }
    q.accept q.heatBytes

/-- A RESUME taken while BUDGET_EXHAUSTION waits is taken before it: the budget keeps its last second (R118). -/
def Part.keepLastSecond (p : Part) : Part := { p with defrost.budget := max 1 p.defrost.budget }

/-- DEFROST RESUME (R118). -/
def Part.defrostResumeRequest (_ : Unit) (p : Part) : Answer :=
  if p.defrost.phase ≠ .hold then p.refuse .notHeld
  else
    let q := p.keepLastSecond.resumeHeat
    q.accept (u8 q.defrost.phase.code ++ q.heatBytes)

/-! ## LOAD SHED (R97) -/

/-- BEGIN 0, END 1. -/
def shedOf (b : Byte) : Option Bool :=
  match b.toNat with
  | 0 => some true
  | 1 => some false
  | _ => none

/-- A change of the shed mark at the arbiter, handed to the defrost sequencer. -/
def Part.changeShed (p : Part) (b : Bool) : Part :=
  if p.path.shed = b then p else (p.setShed b).takeShed b

/-- LOAD SHED (R97). -/
def Part.loadShedRequest (b : Byte) (p : Part) : Answer :=
  match shedOf b with
  | none => p.refuse .range
  | some x =>
    let q := p.changeShed x
    q.accept (markByte q.path.shed ++ u16 q.ceiling)

/-! ## TRIP and REARM (R165, R171) -/

/-- The first cause, the trip second and the cause set; that these are the cause record of R171 is the model's choice
(log entry 38). -/
def causeBytes (first : Option Cause) (second : Option Second) (causes : Causes) : List Byte :=
  optU8 (first.map Cause.code) ++ optSecond second ++ setBytes causes.marks

/-- TRIP (R165). -/
def Part.tripRequest (_ : Unit) (p : Part) : Answer :=
  if p.active = false then p.refuse .mode
  else
    let q := p.arise .hostTrip
    q.accept (u8 q.trip.state.code ++ causeBytes q.trip.first q.trip.second q.trip.causes)

/-- REARM's effect (R171): the trip ends and the clean window is emptied. -/
def Part.rearmNow (p : Part) : Part :=
  ({ p with trip := { p.trip with rearms := 0, clean := .stopped } }).endTrip .rearm

/-- REARM (R171): the reply gives the cause record of the trip that ended. -/
def Part.rearmRequest (_ : Unit) (p : Part) : Answer :=
  if p.trip.state = .normal then p.refuse .notHeld
  else p.rearmNow.accept (causeBytes p.trip.first p.trip.second p.trip.causes)

/-! ## Expiries of the drive unit and the sequencer -/

/-- The shed deferral runs out (R112). -/
def Part.runOutDeferral (p : Part) : Part :=
  if p.defrost.shedCopy = true ∧ p.deferred = false then p.testDeferral else p

/-- A slot's refresh timer expires (R144). In a mode in which own frames do not go out the timer stands
stopped and does not expire. -/
def Part.expireRefresh (p : Part) (r : Role) : Part :=
  if p.ownFrames = true ∧ (p.slot r).refresh.due = true then
    p.setSlot r { p.slot r with due := true, refresh := .stopped }
  else p

/-- The FF off-cycle timer expires (R147). -/
def Part.expireOffCycle (p : Part) : Part := if p.offCycle.due then { p with offCycle := .stopped } else p

/-- The deviation timer expires: FLAGGED, and DAMPER is raised (R159). -/
def Part.expireDeviation (p : Part) : Part :=
  if p.damper = .deviating ∧ p.deviation.due = true then
    ({ p with damper := .flagged, deviation := .stopped }).raise .damper
  else p

/-! ## Meanings -/

/-- DEFROST_START (R111). -/
def execDefrostStart (a : Args Unit) (s : State) : Host.Outcome State Fault Refusal :=
  s.after (s.part.request codeDefrostStart false a Part.defrostStartRequest)

/-- DEFROST_HOLD (R116). -/
def execDefrostHold (a : Args Unit) (s : State) : Host.Outcome State Fault Refusal :=
  s.after (s.part.request codeDefrostHold false a Part.defrostHoldRequest)

/-- DEFROST_RESUME (R118). -/
def execDefrostResume (a : Args Unit) (s : State) : Host.Outcome State Fault Refusal :=
  s.after (s.part.request codeDefrostResume false a Part.defrostResumeRequest)

/-- LOAD_SHED (R97). -/
def execLoadShed (a : Args Byte) (s : State) : Host.Outcome State Fault Refusal :=
  s.after (s.part.request codeLoadShed false a Part.loadShedRequest)

/-- TRIP (R165). -/
def execTrip (a : Args Unit) (s : State) : Host.Outcome State Fault Refusal :=
  s.after (s.part.request codeTrip false a Part.tripRequest)

/-- REARM (R171). -/
def execRearm (a : Args Unit) (s : State) : Host.Outcome State Fault Refusal :=
  s.after (s.part.request codeRearm false a Part.rearmRequest)

/-- SWITCH_COMPLETION (R83). -/
def execSwitchCompletion (s : State) : Host.Outcome State Fault Refusal := s.after s.part.completeSwitch

/-- MINIMUM_HOLD_EXPIRY (R88, R89). -/
def execMinimumHoldExpiry (s : State) : Host.Outcome State Fault Refusal := s.after s.part.expireMinHold

/-- MAXIMUM_HOLD_EXPIRY (R90). -/
def execMaximumHoldExpiry (s : State) : Host.Outcome State Fault Refusal := s.after s.part.expireMaxHold

/-- DEFROST_DUE (R110). -/
def execDefrostDue (s : State) : Host.Outcome State Fault Refusal := s.after s.part.fallDue

/-- SHED_DEFERRAL_RUN_OUT (R112). -/
def execShedDeferralRunOut (s : State) : Host.Outcome State Fault Refusal := s.after s.part.runOutDeferral

/-- HEAT_TIMEOUT (R115). -/
def execHeatTimeout (s : State) : Host.Outcome State Fault Refusal := s.after s.part.timeOutHeat

/-- BUDGET_EXHAUSTION (R117). -/
def execBudgetExhaustion (s : State) : Host.Outcome State Fault Refusal := s.after s.part.exhaustBudget

/-- DRIP_TIMER_EXPIRY (R120). -/
def execDripTimerExpiry (s : State) : Host.Outcome State Fault Refusal := s.after s.part.completeDefrost

/-- RECOVER_TIMER_EXPIRY (R121). -/
def execRecoverTimerExpiry (s : State) : Host.Outcome State Fault Refusal := s.after s.part.expireRecover

/-- FAN_STOP_TIMER_EXPIRY (R134). -/
def execFanStopTimerExpiry (d : DoorId) (s : State) : Host.Outcome State Fault Refusal :=
  s.after (s.part.expireFanStop d)

/-- AJAR_TIMER_EXPIRY (R135). -/
def execAjarTimerExpiry (d : DoorId) (s : State) : Host.Outcome State Fault Refusal :=
  s.after (s.part.expireAjar d)

/-- REFRESH_TIMER_EXPIRY (R144). -/
def execRefreshTimerExpiry (r : Role) (s : State) : Host.Outcome State Fault Refusal :=
  s.after (s.part.expireRefresh r)

/-- OFF_CYCLE_TIMER_EXPIRY (R147). -/
def execOffCycleTimerExpiry (s : State) : Host.Outcome State Fault Refusal := s.after s.part.expireOffCycle

/-- DEVIATION_TIMER_EXPIRY (R159). -/
def execDeviationTimerExpiry (s : State) : Host.Outcome State Fault Refusal := s.after s.part.expireDeviation

/-- ABSENCE_TIMER_EXPIRY (R169). -/
def execAbsenceTimerExpiry (s : State) : Host.Outcome State Fault Refusal := s.after s.part.expireAbsence

/-- CLEAN_TIMER_EXPIRY (R170). -/
def execCleanTimerExpiry (s : State) : Host.Outcome State Fault Refusal := s.after s.part.expireClean

end Sys2Proof.Machine
end

