-- ==== Sys2Proof/Machine/Resets.lean ====
section
/-! DEFINITION. The two resets: the power-on values are `Part.initial`; WARM RESTART keeps what R26, R43, R72,
R105, R126, R139, R161, R174, R187, R206 and R207 keep. And the second of the part's clock (R204). -/

namespace Sys2Proof.Machine

/-! ## WARM RESTART -/

/-- A kept second carried over the return of the count to 0 as the same elapsed time (R204). -/
def Part.carry (p : Part) (t : Option Second) : Option Second := t.map (· - p.seconds)

/-- A compartment after WARM RESTART (R72): the power-on base clamped into the limits in force, and the
tuning last closed. -/
def CompRec.restarted (r : CompRec) (c : Comp) : CompRec :=
  .afterReset (clampInt r.spMin r.spMax (initialBase c)) r.spMin r.spMax (r.pending.getD r.tuning)

/-- A slot after WARM RESTART (R161): the sent value kept; its outgoing value and changed mark are decided
at the end of the event. -/
def Slot.restarted (s : Slot) (r : Role) : Slot :=
  { Slot.initial (initialRequest r) with sent := s.sent, due := s.sent.isSome }

/-- The phases that WARM RESTART leaves DUE with the due-since second kept (R126). -/
def Phase.staysDue (f : Phase) : Bool := decide (f = .due) || f.busy

/-- The defrost record after WARM RESTART (R126). -/
def Part.defrostRestarted (p : Part) : DefrostRec :=
  let d := p.defrost
  let due := d.phase.staysDue || decide (d.interval ≤ d.accumulation)
  { DefrostRec.initial with
    phase := if due then .due else .idle
    accumulation := d.accumulation
    interval := d.interval
    dueSince := if d.phase.staysDue then p.carry d.dueSince else if due then some 0 else none
    dfClaim := due
    last := d.last }

/-- The last-trip record after WARM RESTART (R174). -/
def TripRec.lastAtRestart (t : TripRec) : Option LastTrip :=
  if t.state = .normal then t.last else some ⟨t.first, t.causes, t.second, .warmRestart⟩

/-- Every block at its WARM RESTART values. -/
def Part.restartValues (p : Part) : Part :=
  { Part.initial with
    pointSet := p.pointSet
    activeMap := p.activeMap
    comps := p.comps.mapWith fun c r => r.restarted c
    pathLimits := p.pathLimits
    pathTuning := p.pathTuning
    defrost := p.defrostRestarted
    defrostSet := p.defrostSet
    intervals := p.intervals
    doorSet := p.doorSet
    slots := p.slots.mapWith fun r s => s.restarted r
    driveMap := p.driveMap
    interlock := p.interlock
    compStop := p.carry p.compStop
    heaterOff := p.carry p.heaterOff
    trip := { TripRec.initial with last := p.trip.lastAtRestart }
    tripSet := p.tripSet
    line := .afterReset (rebuildPolls (nodesOf (p.table p.activeMap.table)) [] 0)
    tables := p.tables
    load := p.load
    lockLevel := p.lockLevel
    lockWritten := p.lockWritten
    choices := p.choices }

/-- The restart takes effect (R206): the values, the DF claim handed on (R126), and then the open load
fails. -/
def Part.restart (p : Part) : Part :=
  let q := p.restartValues
  (q.handDF q.defrost.dfClaim).failLoad

/-- The last stop bit of the OK REPLY has gone out. With no restart pending, or the OK still in the queue,
there is no such moment. -/
def Part.restartTakesEffect (p : Part) : Part :=
  if p.restartPending ∧ p.restartWaits = false then p.restart else p

/-! ## The second (R204) -/

/-- One second of the path arbiter's timers (R73). -/
def PathRec.tick (r : PathRec) : PathRec :=
  { r with switchTimer := r.switchTimer.tick, minHold := r.minHold.tick, maxHold := r.maxHold.tick }

/-- One second of a slot's refresh timer, while own drive frames go out (R144). -/
def Slot.tick (s : Slot) (runs : Bool) : Slot := if runs then { s with refresh := s.refresh.tick } else s

/-- One second of the load timer. -/
def Load.tick (l : Load) : Load := { l with timer := l.timer.tick }

/-- Every running timer and count steps. -/
def Part.stepTimers (p : Part) : Part :=
  { p with
    points := tickPoints p.points
    comps := p.comps.mapWith fun _ r => r.tick
    path := p.path.tick
    doors := p.doors.mapWith fun _ d => d.tick p.polls
    slots := p.slots.mapWith fun _ s => s.tick p.ownFrames
    offCycle := p.offCycle.tick
    deviation := p.deviation.tick
    trip := p.trip.tick
    load := p.load.map Load.tick }

/-- A second of the part's clock: the count rises, the frost accumulation takes the second (R109), the
timers step, and a LOST holder's second counts as a value (R96). The expiries are events of their own. -/
def Part.tickSecond (p : Part) : Part :=
  (((({ p with seconds := p.seconds + 1 }).accumulate).tickDefrost).stepTimers).countBlindSecond

/-! ## Meanings -/

/-- POWER_ON_RESET (R207). -/
def execPowerOnReset (s : State) : Host.Outcome State Fault Refusal := .next { s with part := Part.initial }

/-- RESTART_TAKES_EFFECT (R206). -/
def execRestartTakesEffect (s : State) : Host.Outcome State Fault Refusal := s.after s.part.restartTakesEffect

/-- SECOND_TICK (R204). -/
def execSecondTick (s : State) : Host.Outcome State Fault Refusal := s.after s.part.tickSecond

end Sys2Proof.Machine
end

