-- ==== Sys2Proof/Machine/Dispatch.lean ====
section
/-! DEFINITION. The meaning of every command: one arm per constructor of `Instr`, each one direct call. -/

namespace Sys2Proof.Machine

def exec (i : Instr) (s : State) : Host.Outcome State Fault Refusal :=
  match i with
  | .powerOnReset => Sys2Proof.Machine.execPowerOnReset s
  | .warmRestart a => Sys2Proof.Machine.execWarmRestart a s
  | .restartTakesEffect => Sys2Proof.Machine.execRestartTakesEffect s
  | .identify a => Sys2Proof.Machine.execIdentify a s
  | .query a => Sys2Proof.Machine.execQuery a s
  | .setMode a => Sys2Proof.Machine.execSetMode a s
  | .setLock a => Sys2Proof.Machine.execSetLock a s
  | .tableOpen a => Sys2Proof.Machine.execTableOpen a s
  | .tableData a => Sys2Proof.Machine.execTableData a s
  | .tableClose a => Sys2Proof.Machine.execTableClose a s
  | .tableAbort a => Sys2Proof.Machine.execTableAbort a s
  | .tableRead a => Sys2Proof.Machine.execTableRead a s
  | .swapMap a => Sys2Proof.Machine.execSwapMap a s
  | .setSetpoint a => Sys2Proof.Machine.execSetSetpoint a s
  | .pushOverride a => Sys2Proof.Machine.execPushOverride a s
  | .popOverride a => Sys2Proof.Machine.execPopOverride a s
  | .clearOverrides a => Sys2Proof.Machine.execClearOverrides a s
  | .injectSample a => Sys2Proof.Machine.execInjectSample a s
  | .defrostStart a => Sys2Proof.Machine.execDefrostStart a s
  | .defrostHold a => Sys2Proof.Machine.execDefrostHold a s
  | .defrostResume a => Sys2Proof.Machine.execDefrostResume a s
  | .loadShed a => Sys2Proof.Machine.execLoadShed a s
  | .trip a => Sys2Proof.Machine.execTrip a s
  | .rearm a => Sys2Proof.Machine.execRearm a s
  | .clearFaults a => Sys2Proof.Machine.execClearFaults a s
  | .setAttentionMask a => Sys2Proof.Machine.execSetAttentionMask a s
  | .doorRead a => Sys2Proof.Machine.execDoorRead a s
  | .unknownRequest code => Sys2Proof.Machine.execUnknownRequest code s
  | .relayFrame f => Sys2Proof.Machine.execRelayFrame f s
  | .mainFrameDiscard => Sys2Proof.Machine.execMainFrameDiscard s
  | .egressTransmit => Sys2Proof.Machine.execEgressTransmit s
  | .secondTick => Sys2Proof.Machine.execSecondTick s
  | .staleTimerExpiry p => Sys2Proof.Machine.execStaleTimerExpiry p s
  | .overrideExpiry c slot => Sys2Proof.Machine.execOverrideExpiry c slot s
  | .blindTimerExpiry c => Sys2Proof.Machine.execBlindTimerExpiry c s
  | .warmAlarmExpiry c => Sys2Proof.Machine.execWarmAlarmExpiry c s
  | .switchCompletion => Sys2Proof.Machine.execSwitchCompletion s
  | .minimumHoldExpiry => Sys2Proof.Machine.execMinimumHoldExpiry s
  | .maximumHoldExpiry => Sys2Proof.Machine.execMaximumHoldExpiry s
  | .defrostDue => Sys2Proof.Machine.execDefrostDue s
  | .shedDeferralRunOut => Sys2Proof.Machine.execShedDeferralRunOut s
  | .heatTimeout => Sys2Proof.Machine.execHeatTimeout s
  | .budgetExhaustion => Sys2Proof.Machine.execBudgetExhaustion s
  | .dripTimerExpiry => Sys2Proof.Machine.execDripTimerExpiry s
  | .recoverTimerExpiry => Sys2Proof.Machine.execRecoverTimerExpiry s
  | .fanStopTimerExpiry d => Sys2Proof.Machine.execFanStopTimerExpiry d s
  | .ajarTimerExpiry d => Sys2Proof.Machine.execAjarTimerExpiry d s
  | .refreshTimerExpiry r => Sys2Proof.Machine.execRefreshTimerExpiry r s
  | .offCycleTimerExpiry => Sys2Proof.Machine.execOffCycleTimerExpiry s
  | .deviationTimerExpiry => Sys2Proof.Machine.execDeviationTimerExpiry s
  | .absenceTimerExpiry => Sys2Proof.Machine.execAbsenceTimerExpiry s
  | .cleanTimerExpiry => Sys2Proof.Machine.execCleanTimerExpiry s
  | .loadTimerExpiry => Sys2Proof.Machine.execLoadTimerExpiry s
  | .pollDue node => Sys2Proof.Machine.execPollDue node s
  | .cabinetFrameSent => Sys2Proof.Machine.execCabinetFrameSent s
  | .cabinetReply f => Sys2Proof.Machine.execCabinetReply f s
  | .cabinetFrameDiscard => Sys2Proof.Machine.execCabinetFrameDiscard s
  | .replyWindowTimeout => Sys2Proof.Machine.execReplyWindowTimeout s

end Sys2Proof.Machine
end

