-- ==== Sys2Proof/Safety.lean ====
section
/-! DEFINITION. What a safe part is: the conditions that every command keeps, and the words in which the
statements are written. -/

namespace Sys2Proof.Machine

/-! ## Commands that run -/

/-- The command runs, and the part after it is `p` with the end of the event (asks placed, slots screened,
line taken); the waiting commands stay as they are. -/
def Runs (c : Instr) (s : State) (p : Part) : Prop := exec c s = .next { s with part := p.settle }

/-- A request is taken and can be answered: no restart is pending and its REPLY has a place (R191). -/
abbrev Part.answers (p : Part) : Prop := p.restartPending = false ∧ p.hasPlace = true

/-- A request is taken, can be answered and is not refused by SHOWROOM (R191). -/
abbrev Part.serves (p : Part) : Prop := p.answers ∧ p.mode ≠ .showroom

/-- The part with everything from `q` that the end of an event may change. -/
def Part.withEdge (p q : Part) : Part :=
  { p with
    slots := q.slots
    line := q.line
    egress := q.egress
    flags := q.flags
    details := q.details
    refusal := q.refusal
    refusals := q.refusals }

/-- The part of a slot that only a frame sent, a status, a timer, a trip or a new drive map changes. -/
structure SlotRecord where
  sent : Option Nat
  moved : Bool
  refresh : Timer
  due : Bool
  tripMark : Bool
  status : Option DriveStatus
deriving DecidableEq, Repr

/-- That part of a slot. -/
def Slot.record (s : Slot) : SlotRecord := ⟨s.sent, s.moved, s.refresh, s.due, s.tripMark, s.status⟩

/-- The slots' records are the same. -/
def SlotsKept (p q : Part) : Prop := ∀ r, (q.slot r).record = (p.slot r).record

/-- No flag but DROP and no detail but DROP's has changed, and DROP is only raised. -/
def FlagsKept (p q : Part) : Prop :=
  q.flags ||| Flag.drop.bit = p.flags ||| Flag.drop.bit ∧
    (p.hasFlag .drop = true → q.hasFlag .drop = true) ∧
    q.details = { p.details with drop := q.details.drop }

/-- A REPLY of the part stands in the egress queue. -/
def Part.holdsReply (p : Part) (code : Byte) (s : Status) (attention : Bool) (data : List Byte) : Prop :=
  (⟨.reply, ⟨0, 1, kindReply, code :: s.code :: (markByte attention ++ data)⟩⟩ : Egress) ∈ p.egress

/-- The command runs, the waiting commands stay as they are, and the part after it is as stated. -/
def Gives (c : Instr) (s : State) (P : Part → Prop) : Prop :=
  ∃ p, exec c s = .next { s with part := p } ∧ P p

/-- A request refused with a status: the record of R203 written, nothing else changed, and the REPLY. -/
def Part.refusedBy (p : Part) (code : Byte) (s : Status) (data : List Byte) : Part :=
  ({ p with
      refusal := some ⟨code, 0, 1, s.code, p.seconds⟩
      refusals := min 65535 (p.refusals + 1) }).reply code s data

/-- A relay frame refused with a status: the record of R203 written for its node, and the REPLY of R183. -/
def Part.refusedFor (p : Part) (f : Frame) (s : Status) : Part :=
  ({ p with
      refusal := some ⟨64, 0, f.dst, s.code, p.seconds⟩
      refusals := min 65535 (p.refusals + 1) }).reply 64 s [f.dst, f.kind]

/-- The line once a transaction has ended: FREE, nothing in flight, no reply window. -/
def Part.lineFreed (p : Part) : Part :=
  { p with line.state := .free, line.txn := none, line.window := none }

/-- The role that a DRIVE frame with a payload of 3 bytes is addressed to: the one at its node and channel. -/
def Part.addressed (p : Part) (f : Frame) (r : Role) : Prop :=
  f.kind = kindDrive ∧ f.payload.length = 3 ∧ ∃ m, p.driveMap = some m ∧
    (∀ k, ((m.get k).node = f.dst.toNat ∧ some (m.get k).channel = f.payload.head?.map fun b => b.toNat) ↔ k = r)

/-- The frame is addressed to no owned role (R155). -/
def Part.addressedToNone (p : Part) (f : Frame) : Prop :=
  f.kind = kindDrive → f.payload.length = 3 → ∀ m, p.driveMap = some m → ∀ k,
    ¬((m.get k).node = f.dst.toNat ∧ some (m.get k).channel = f.payload.head?.map fun b => b.toNat)

/-! ## What a command may reach -/

/-- The edge keeps what only a command of the line or of the egress queue changes: the slots' records, the
scheduler's time, a line that is busy, and every frame of the egress queue but READINGS frames. -/
def EdgeKept (p q : Part) : Prop :=
  SlotsKept p q ∧ q.line.ms = p.line.ms ∧ (p.line.state ≠ .free → q.line = p.line) ∧
    (∀ e, e ∈ p.egress → e.sort ≠ .readings → e ∈ q.egress)

/-- Every flag that was set stays set, and no flag outside the list is raised. -/
def OnlyRaises (l : List Flag) (p q : Part) : Prop :=
  ∀ f, (p.hasFlag f = true → q.hasFlag f = true) ∧ (f ∉ l → q.hasFlag f = p.hasFlag f)

/-- A hand-off to the path arbiter reaches the path, the defrost record, the FF off-cycle and the edge, and
the model's own count of open choices. -/
def ReachesPath (p q : Part) : Prop :=
  q = ({ p with
    path := q.path
    defrost := q.defrost
    offCycle := q.offCycle
    choices := q.choices }).withEdge q ∧ EdgeKept p q

/-- An event at the compartment unit reaches, besides these, the compartment records. -/
def ReachesComps (p q : Part) : Prop :=
  q = ({ p with
    comps := q.comps
    path := q.path
    defrost := q.defrost
    offCycle := q.offCycle
    choices := q.choices }).withEdge q ∧ EdgeKept p q

/-- An event at the point unit reaches, besides these, the point records and the door records. -/
def ReachesPoints (p q : Part) : Prop :=
  q = ({ p with
    points := q.points
    comps := q.comps
    doors := q.doors
    path := q.path
    defrost := q.defrost
    offCycle := q.offCycle
    choices := q.choices }).withEdge q ∧ EdgeKept p q

/-! ## Requests in common (R191) -/

/-- What R191 asks of a request before its own checks: its name code, whether SHOWROOM lets it pass, whether
its arguments are of its form, and whether every reply of it carries the selector and map states (R39). -/
structure RequestView where
  code : Byte
  exempt : Bool
  formed : Bool
  maps : Bool
deriving DecidableEq, Repr

/-- The arguments are of the request's form. -/
def Args.isForm {α : Type} : Args α → Bool
  | .form _ => true
  | .illFormed => false

/-- A command as a request with a name code of R190; none for every other command. -/
def requestView : Instr → Option RequestView
  | .identify a => some ⟨1, true, Args.isForm a, false⟩
  | .query a => some ⟨2, true, Args.isForm a, false⟩
  | .setMode a => some ⟨3, isRelease a, Args.isForm a, false⟩
  | .setLock a => some ⟨4, false, Args.isForm a, false⟩
  | .warmRestart a => some ⟨5, false, Args.isForm a, false⟩
  | .tableOpen a => some ⟨6, false, Args.isForm a, false⟩
  | .tableData a => some ⟨7, false, Args.isForm a, false⟩
  | .tableClose a => some ⟨8, false, Args.isForm a, false⟩
  | .tableAbort a => some ⟨9, false, Args.isForm a, false⟩
  | .tableRead a => some ⟨10, false, Args.isForm a, false⟩
  | .swapMap a => some ⟨11, false, Args.isForm a, true⟩
  | .setSetpoint a => some ⟨12, false, Args.isForm a, false⟩
  | .pushOverride a => some ⟨13, false, Args.isForm a, false⟩
  | .popOverride a => some ⟨14, false, Args.isForm a, false⟩
  | .clearOverrides a => some ⟨15, false, Args.isForm a, false⟩
  | .injectSample a => some ⟨16, false, Args.isForm a, false⟩
  | .defrostStart a => some ⟨17, false, Args.isForm a, false⟩
  | .defrostHold a => some ⟨18, false, Args.isForm a, false⟩
  | .defrostResume a => some ⟨19, false, Args.isForm a, false⟩
  | .loadShed a => some ⟨20, false, Args.isForm a, false⟩
  | .trip a => some ⟨21, false, Args.isForm a, false⟩
  | .rearm a => some ⟨22, false, Args.isForm a, false⟩
  | .clearFaults a => some ⟨23, false, Args.isForm a, false⟩
  | .setAttentionMask a => some ⟨24, false, Args.isForm a, false⟩
  | .doorRead a => some ⟨25, false, Args.isForm a, false⟩
  | _ => none

/-! ## The interlock (R151) -/

/-- A frame in flight may become a value sent without turning compressor and heater both on. -/
def Part.flightSafe (p : Part) : Prop :=
  match p.line.state, p.line.txn with
  | .sending, some t =>
    match t.origin with
    | .slot .comp => carried t.frame ≠ 0 → p.heaterOn = false
    | .relay (some .comp) => carried t.frame ≠ 0 → p.heaterOn = false
    | .slot .heater => carried t.frame ≠ 0 → p.compSent = 0
    | .relay (some .heater) => carried t.frame ≠ 0 → p.compSent = 0
    | _ => True
  | _, _ => True

/-- The compressor command and the heater command are never both on (R151), and no frame in flight will
make them so. -/
def Part.neverBoth (p : Part) : Prop := (p.compSent = 0 ∨ p.heaterOn = false) ∧ p.flightSafe

/-! ## The cabinet line (R175, R176) -/

/-- CDIR is at the drive level while a frame goes out and only then; a transaction is in flight unless the
line is FREE; the reply window stands while the line is AWAITING and only then. -/
def LineRec.sound (l : LineRec) : Prop :=
  (l.cdir = .drive ↔ l.state = .sending) ∧ (l.txn = none ↔ l.state = .free) ∧
    (l.window = none ↔ l.state ≠ .awaiting)

/-- No relay frame waits while the line is FREE (R180, R182): the arbiter takes what waits at the end of every event. -/
def LineRec.drained (l : LineRec) : Prop := l.state = .free → l.relay = []

/-- The queues keep to 8 frames (R192). -/
def Part.queuesFit (p : Part) : Prop := p.egress.length ≤ queueLimit ∧ p.line.relay.length ≤ queueLimit

/-- Every frame that waits, is in flight or was last begun keeps to the 40 bytes of payload of R188. -/
def Part.framesFit (p : Part) : Prop :=
  (∀ e, e ∈ p.egress → e.frame.payload.length ≤ 40) ∧ (∀ e, p.mtx = some e → e.frame.payload.length ≤ 40) ∧
    (∀ f, f ∈ p.line.relay → f.payload.length ≤ 40) ∧ ∀ x, p.line.txn = some x → x.frame.payload.length ≤ 40

/-! ## Compartments (R44, R49, R56) -/

/-- The law of an override stack: at most 4 entries, the top one LIVE, at most one LIVE DOOR entry. -/
def stackSound (l : List Override) : Prop :=
  l.length ≤ stackLimit ∧ (∀ o, l.head? = some o → o.tag = .live) ∧
    (l.filter Override.liveDoor).length ≤ 1

/-- A compartment's limits are ordered, its base lies within them, and its stack keeps its law. -/
def CompRec.sound (r : CompRec) : Prop :=
  r.spMin ≤ r.spMax ∧ r.spMin ≤ r.base ∧ r.base ≤ r.spMax ∧ stackSound r.stack

/-- The steps of R56: from the base, over the entries from bottom to top, and then into the limits. -/
def CompRec.ruled (r : CompRec) : Int :=
  let v := r.stack.reverse.foldl
    (fun v o => if o.tag = .spent then v else if o.kind = .absolute then o.value else v + o.value) r.base
  if v < r.spMin then r.spMin else if r.spMax < v then r.spMax else v

/-- The demand and urgent mark that R58, R59 and R63 give a compartment when its effective setpoint becomes
`eff`: from IDLE and CALLING by the error, in the other demands as they are. -/
def demandRule (r : CompRec) (eff : Int) : Demand × Bool :=
  match r.demand, r.air with
  | .idle, some v =>
    if r.tuning.dIn ≤ v - eff then (.calling, decide (r.tuning.eUrg ≤ v - eff)) else (.idle, false)
  | .calling, some v =>
    if v - eff ≤ -r.tuning.dOut then (.idle, false) else (.calling, decide (r.tuning.eUrg ≤ v - eff))
  | _, _ => (r.demand, r.urgent)

/-- Every compartment is sound. -/
def Part.compsSound (p : Part) : Prop := ∀ c, (p.comp c).sound

/-! ## The path and the defrost sequencer (R73, R74, R77, R78, R106) -/

/-- The arbiter's claim records follow the claims of the compartment unit and the sequencer. -/
def Part.claimsAgree (p : Part) : Prop :=
  p.path.claims.ff.raised = p.ffClaim ∧ p.path.fzRaised = p.fzClaim ∧
    p.path.recover = p.defrost.recoverClaim ∧
    p.path.claims.fz.raised = (p.path.fzRaised || p.path.recover) ∧
    p.path.claims.df.raised = p.defrost.dfClaim

/-- The claims of FF and FZ are of class 1 or of class 2 (R74). -/
def Part.classesSound (p : Part) : Prop :=
  (p.path.claims.ff.cls = 1 ∨ p.path.claims.ff.cls = 2) ∧ (p.path.claims.fz.cls = 1 ∨ p.path.claims.fz.cls = 2)

/-- No claim has a key later than the next one. -/
def Part.keysSound (p : Part) : Prop :=
  ∀ k, (p.path.claims.get k).arrival ≤ p.path.nextKey ∧ (p.path.claims.get k).urgentSince ≤ p.path.nextKey

/-- The grant queue: no claimant twice, never the holder, in grant order; in the states that take claims every
raised claimant holds or waits and no other waits; empty and without a holder in the other states and in OFF. -/
def Part.queueSound (p : Part) : Prop :=
  p.path.queue.Nodup ∧ (∀ k, p.path.holder = some k → k ∉ p.path.queue) ∧
    (∀ k, k ∈ p.path.queue → (p.path.claims.get k).raised = true) ∧
    (p.path.queue.Pairwise fun a b => rankBefore (p.path.claims.rank b) (p.path.claims.rank a) = false) ∧
    (p.path.state.takes = true → ∀ k, (p.path.claims.get k).raised = true →
      p.path.holder = some k ∨ k ∈ p.path.queue) ∧
    (p.path.state ≠ .switch ∧ p.path.state ≠ .run ∧ p.path.state ≠ .defrost →
      p.path.queue = [] ∧ p.path.holder = none)

/-- A holder whose run has not started has its claim raised. -/
def Part.unstartedSound (p : Part) : Prop :=
  p.path.state = .run → p.path.runStarted = false → ∀ k, p.path.holder = some k →
    (p.path.claims.get k).raised = true

/-- The path state that R77 gives the mode and the trip. -/
def Part.pathFits (p : Part) : Prop :=
  match p.mode, decide (p.trip.state = .normal) with
  | .regulate, true => p.path.state.takes = true
  | .regulate, false => p.path.state = .tripped
  | .service, true => p.path.state = .service
  | .service, false => p.path.state = .tripped
  | _, _ => p.path.state = .parked

/-- The sequencer and the path: in PREP, HEAT, HOLD and DRIP, and only then, DF holds the path in DEFROST; the
heater request is on in PREP and HEAT only; the recover claim stands in RECOVER only; the DF claim stands through a
defrost, and outside one only in DUE. -/
def Part.defrostFits (p : Part) : Prop :=
  (p.defrost.phase.busy = true ↔ p.path.state = .defrost) ∧
    (p.path.state = .defrost ↔ p.path.holder = some .df) ∧
    (p.defrost.heater = true ↔ p.defrost.phase = .prep ∨ p.defrost.phase = .heat) ∧
    (p.defrost.recoverClaim = true ↔ p.defrost.phase = .recover) ∧
    (p.defrost.phase.busy = true → p.defrost.dfClaim = true) ∧
    (p.defrost.dfClaim = true → p.defrost.phase.busy = true ∨ p.defrost.phase = .due)

/-- DF, raised, is granted at once (R79, R81, R86, R89, R90): in OFF, over a holder in RUN whose run has not started, and
over one whose minimum or maximum hold has expired. -/
def PathRec.givesWayToDF (r : PathRec) : Prop :=
  r.state = .off ∨ r.state = .run ∧ r.holder ≠ none ∧
    (r.runStarted = false ∨ r.minHold = .expired ∨ r.maxHold = .expired)

/-- The DF claim that DUE raises at the arbiter: kept in its record where no claims are taken, granted at once where the
path gives way to it, else at the head of the queue. -/
def Part.meetsDF (p q : Part) : Prop :=
  q.path.claims.df.raised = true ∧
    (p.path.state.takes = false → q.path.state = p.path.state ∧ q.path.holder = p.path.holder ∧
      q.path.queue = p.path.queue ∧ q.defrost.phase = .due) ∧
    (p.path.givesWayToDF → q.path.state = .defrost ∧ q.path.holder = some .df ∧ q.path.speed = 0 ∧
      q.defrost.phase = .prep ∧ q.defrost.heater = true ∧ q.defrost.heatTime = 0 ∧
      q.defrost.budget = p.pathLimits.holdBudget) ∧
    (p.path.state = .switch ∨ p.path.state = .run ∧ p.path.runStarted = true ∧ p.path.minHold ≠ .expired ∧
        p.path.maxHold ≠ .expired →
      q.path.state = p.path.state ∧ q.path.holder = p.path.holder ∧ q.path.queue = .df :: p.path.queue ∧
        q.defrost.phase = .due)

/-- The valve position last sent, or the recorded one where none has been sent (R101, R102). -/
def Part.valveSent (p : Part) : Valve :=
  match p.slots.valve.sent with
  | some v => if v = 0 then .ff else .fz
  | none => p.path.valve

/-- The path after a take-up that adopted a valve position (R101, R81): the raised claimants stand in the order DF, FZ, FF,
an FF of a better class before FZ; the first of them holds the path and the others wait, and with none raised it is
OFF. -/
def Part.tookUp (q : Part) (adopted : Valve) : Prop :=
  let c := q.path.claims
  let others : List Claimant := if c.ff.cls < c.fz.cls then [.ff, .fz] else [.fz, .ff]
  let order := (Claimant.df :: others).filter fun k => (c.get k).raised
  (c.df.cls = 0 → c.ff.cls ≠ 0 → c.fz.cls ≠ 0 → q.path.holder = order.head? ∧ q.path.queue = order.tail) ∧
    (∀ k, (c.get k).raised = true → q.path.holder = some k ∨ k ∈ q.path.queue) ∧
    (q.path.holder = none → q.path.state = .off ∧ q.path.speed = 0 ∧ q.path.valve = adopted ∧
      ∀ k, (c.get k).raised = false) ∧
    (q.path.holder = some .df → c.df.raised = true ∧ q.path.state = .defrost ∧ q.path.speed = 0 ∧
      q.path.valve = adopted) ∧
    ∀ k, q.path.holder = some k → k ≠ .df → (c.get k).raised = true ∧ q.path.valve = k.valve ∧
      (if adopted = k.valve then q.path.state = .run ∧ q.path.speed = q.pathLimits.sMin
        else q.path.state = .switch ∧ q.path.switchTimer = .running q.pathTuning.changeTime ∧
          q.path.speed = if q.compSent = 0 then 0 else q.changeSpeed)

/-! ## The compressor speed (R94 to R96) -/

/-- A speed brought into the limits. -/
def Part.limited (p : Part) (v : Nat) : Nat :=
  if v < p.pathLimits.sMin then p.pathLimits.sMin else if p.pathLimits.sMax < v then p.pathLimits.sMax else v

/-- The highest speed allowed now (R95): S_max, or under a load shed the shed ceiling brought into the limits. -/
def Part.highest (p : Part) : Nat :=
  if p.path.shed = true then p.limited p.pathTuning.shedCeiling else p.pathLimits.sMax

/-- The error and the full-speed error with which a CALLING compartment drives the speed. -/
def CompRec.drivesCalling (r : CompRec) : Option (Int × Int) :=
  if r.demand = .calling then r.air.map fun v => (v - r.effective, r.tuning.eFull) else none

/-- Those with which a BLIND_CALL compartment drives it. -/
def CompRec.drivesBlind (r : CompRec) : Option (Int × Int) :=
  if r.demand = .blindCall then some (r.tuning.eFull / 2, r.tuning.eFull) else none

/-- The driving compartment of the held path (R94): a CALLING one, of two the one with the larger error and FZ of
equal ones, else a blind one, FZ before CD. -/
def Part.drives (p : Part) : Option (Int × Int) :=
  match p.path.holder with
  | some .ff => p.comps.ff.drivesCalling.or p.comps.ff.drivesBlind
  | some .fz =>
    match p.comps.fz.drivesCalling, p.comps.cd.drivesCalling with
    | some a, some b => some (if a.1 < b.1 then b else a)
    | a, b => ((a.or b).or p.comps.fz.drivesBlind).or p.comps.cd.drivesBlind
  | _ => none

/-- The request that a speed computation gives (R95): the target, held within one slew of the previous speed and then
within S_min and the ceiling. -/
def Part.ruledSpeed (p : Part) : Int :=
  let lo : Int := p.pathLimits.sMin
  let hi : Int := p.pathLimits.sMax
  let target := match p.drives with
    | none => lo
    | some (e, full) => lo + (hi - lo) * min (max e 0) full / full
  let prev : Int := (p.path.prevSpeed.getD p.pathLimits.sMin : Nat)
  max lo (min p.highest (max (prev - p.pathTuning.slew) (min (prev + p.pathTuning.slew) target)))

/-- The part after a counted value (R96): the divider count rises, and when it reaches the speed divider the request
`v` is placed and the count returns to 0. -/
def Part.counted (p : Part) (v : Nat) : Part :=
  if p.path.divider + 1 < p.pathTuning.speedDivider then { p with path.divider := p.path.divider + 1 }
  else { p with path.divider := 0, path.speed := v, path.prevSpeed := some v }

/-! ## Trips (R160, R162) -/

/-- In NORMAL no cause stands; the slots have their trip marks exactly while a trip stands. -/
def Part.tripSound (p : Part) : Prop :=
  (p.trip.state = .normal → p.trip.first = none ∧ p.trip.second = none ∧ p.trip.causes = .empty) ∧
    ∀ r, (p.slot r).tripMark = decide (p.trip.state ≠ .normal)

/-- The law of the path: claims, queue, mode and trip, and the defrost sequencer with them. -/
def Part.pathLaw (p : Part) : Prop :=
  p.claimsAgree ∧ p.keysSound ∧ p.queueSound ∧ p.unstartedSound ∧ p.pathFits ∧ p.tripSound ∧ p.defrostFits

/-! ## Points and their consumers (R15, R16, R21, R44, R106) -/

/-- Every point's resolution and LOST mark stand as its chain gives them, and the compartments' air values and
LOST marks and the sequencer's coil value follow P0 to P2 and P4. -/
def Part.resolutionsStand (p : Part) : Prop :=
  (∀ i, (p.point i).resolved = p.resolve i ∧
      (p.point i).lost = (decide (i.val ≤ 2) &&
        (decide ((p.point i).state = .stale) || decide ((p.point i).state = .faulty)) &&
        (p.point i).resolved.isNone)) ∧
    (∀ i c, airComp i = some c →
      (p.comp c).air = (p.point i).resolved.map (fun x => x.value) ∧ (p.comp c).lost = (p.point i).lost) ∧
    p.defrost.coil = (p.point 4).resolved.map fun x => x.value

/-! ## Samples of a poll's reply (R31 to R35) -/

/-- What a channel's count makes of its point's record, and the quality it is reported with (R4, R5, R8, R9, R10, R12,
R32, R34): 4 where nothing is taken, 0 for a level or a temperature in span, 1 out of span. -/
def Part.sampled (p : Part) (ready : Bool) (e : MapEntry) (i : PointId) (n : Nat) : Point × Nat :=
  let x := p.point i
  let fresh (v : Int) : Point := { x with
    state := .fresh
    filtered := v
    lastRaw := some n
    lastSecond := some p.seconds
    stale := .running p.pointSet[i].staleTime }
  if ready = false ∨ p.mode = .bypass then (x, 4)
  else if 6 ≤ i.val ∧ i.val ≤ 9 then (fresh (if n < 2048 then 0 else 1), 0)
  else match p.validCurve e.curve with
    | none => (x, 4)
    | some knots =>
      match convert knots n with
      | none => ({ x with
          state := .faulty
          lastRaw := some n
          lastSecond := some p.seconds
          stale := if x.state = .faulty then x.stale else .stopped }, 1)
      | some t =>
        let v := clampInt (-4000) 6000 (t + e.trim)
        (fresh (if x.state = .fresh then x.filtered + filterStep (v - x.filtered) e.shift else v), 0)

/-- The used entry of the active map for a channel of a node. -/
def Part.mappedTo (p : Part) (node : Nat) (x : ChannelEntry) : Option MapEntry :=
  p.activeEntries.find? fun e => e.node = node ∧ e.channel = x.channel

/-- The bytes of a channel's item in the READINGS frame (R34), none for an entry with forward mode NONE. -/
def Part.itemOfChannel (p : Part) (node : Nat) (ready : Bool) (x : ChannelEntry) : List Byte :=
  match p.mappedTo node x with
  | none => u8 x.channel ++ u8 3 ++ u16 x.count
  | some e =>
    if e.forward = 0 then
      let r := p.sampled ready e (Fin.ofNat 16 e.point) x.count
      u8 x.channel ++ u8 r.2 ++ i16 r.1.filtered
    else if e.forward = 1 then u8 x.channel ++ u8 2 ++ u16 x.count
    else []

/-! ## What a close makes of a table (R197)

The tests of the validated tables and the ranges of the clamped ones, each as its own chapter lists them. -/

/-- The conditions of R28 on the used entries of a point map. -/
def mapRules (l : List MapEntry) : Prop :=
  (∀ e, e ∈ l → (2 ≤ e.node ∧ e.node ≤ 62) ∧ e.channel ≤ 7 ∧ e.point ≤ 15 ∧ (-200 ≤ e.trim ∧ e.trim ≤ 200) ∧
    e.shift ≤ 4 ∧ e.forward ≤ 2 ∧ (e.point < 6 ∨ 9 < e.point → e.curve ≤ 7)) ∧
    l.Pairwise fun a b => (a.node ≠ b.node ∨ a.channel ≠ b.channel) ∧ a.point ≠ b.point

/-- The conditions of R3 on the knots of a curve. -/
def curveRules (l : List Knot) : Prop :=
  (l.Pairwise fun a b => b.used = true → a.used = true) ∧
    2 ≤ (l.filter fun k => k.used).length ∧
    (l.Pairwise fun a b => a.used = true → b.used = true → a.count < b.count) ∧
    ∀ k, k ∈ l → k.used = true → k.count ≤ 4095 ∧ -4000 ≤ k.temp ∧ k.temp ≤ 6000

/-- The conditions of R142 on the seven locations. -/
def driveRules (l : List Location) : Prop :=
  (∀ x, x ∈ l → 2 ≤ x.node ∧ x.node ≤ 62 ∧ x.channel ≤ 7) ∧
    l.Pairwise fun a b => a.node ≠ b.node ∨ a.channel ≠ b.channel

/-- The conditions of R108 on the rows of the interval table. -/
def intervalRules (l : List IntervalEntry) : Prop :=
  (l.Pairwise fun a b => b.used = true → a.used = true) ∧
    (∀ x, x ∈ l → x.used = true → x.row.heatLimit ≤ 3600 ∧ 3600 ≤ x.row.interval ∧ x.row.interval ≤ 86400) ∧
    l.Pairwise fun a b => a.used = true → b.used = true → a.row.heatLimit < b.row.heatLimit

/-- The nearest value in lo..hi. -/
def nearest (lo hi v : Int) : Int := max lo (min hi v)

/-- The fields of an entry after the close of a clamped table, range by range: R2, R143, R163, R45, R75, R46, R76, R107
and R128. -/
def ruledEntry (t : Nat) (e : List Int) : List Int :=
  let code (v : Int) : Int := if v = 1 then 1 else 0
  match t, e with
  | 10, [f, s] => [if 0 ≤ f ∧ f ≤ 15 then f else 255, nearest 2 60 s]
  | 12, [pre, drip] => [nearest 0 600 pre, nearest 60 900 drip]
  | 13, [ff, fz, cond, damper, auto, delay] =>
    [code ff, code fz, code cond, code damper, code auto, nearest 10 600 delay]
  | 14, [lo, hi] => [nearest (-4000) 6000 lo, max (nearest (-4000) 6000 lo) (nearest (-4000) 6000 hi)]
  | 15, [lo, hi, inhibit, heat, budget] =>
    [nearest 1200 4500 lo, max (nearest 1200 4500 lo) (nearest 1200 4500 hi), nearest 60 900 inhibit,
      nearest 600 3600 heat, nearest 0 1800 budget]
  | 16, [dIn, dOut, urg, full, fan, on, off, warm, delay, open_, offset, duration] =>
    [nearest 10 500 dIn, nearest 10 500 dOut, nearest 100 1000 urg, nearest 50 1000 full, nearest 0 100 fan,
      nearest 60 3600 on, nearest 60 3600 off, nearest (-4000) 6000 warm, nearest 60 14400 delay,
      nearest 10 600 open_, nearest (-300) 0 offset, nearest 0 7200 duration]
  | 17, [lo, hi, change, speed, slew, divider, ceiling, period] =>
    [nearest 30 600 lo, max (nearest 30 600 lo) (nearest 300 3600 hi), nearest 5 60 change,
      nearest 1200 4500 speed, nearest 50 1000 slew, nearest 1 8 divider, nearest 1200 4500 ceiling,
      nearest 250 5000 period]
  | 18, [first, weight, term, fan, recover, deferral] =>
    [nearest 3600 86400 first, nearest 0 30 weight, nearest 0 3000 term, nearest (-4000) 0 fan,
      nearest 60 1800 recover, nearest 0 43200 deferral]
  | 20, [stop, ajar] => [nearest 0 30 stop, nearest 120 1800 ajar]
  | _, _ => []

/-! ## Limits (R75) and loads (R195) -/

/-- The speed limits in force are in their range and in order. -/
def Part.limitsSound (p : Part) : Prop :=
  1200 ≤ p.pathLimits.sMin ∧ p.pathLimits.sMin ≤ p.pathLimits.sMax ∧ p.pathLimits.sMax ≤ 4500

/-- A table is LOADING exactly while the load record names it, the cursor lies in the table, and the
active map is never LOADING. -/
def Part.loadSound (p : Part) : Prop :=
  (∀ t : TableId, (p.table t).state = .loading ↔ p.load.map (·.table) = some t) ∧
    (∀ l, p.load = some l → l.cursor < entryCount l.table) ∧
    (p.table p.activeMap.table).state = .valid

/-- Every table has its number of entries, and every entry its fields (R194). -/
def Part.tablesSound (p : Part) : Prop :=
  ∀ t : TableId, (p.table t).entries.length = entryCount t ∧
    ∀ e, e ∈ (p.table t).entries → e.length = (tableForms t).length

/-- A VALID point map meets the conditions of R28. -/
def Part.mapsSound (p : Part) : Prop :=
  ∀ t : TableId, t.val ≤ 1 → (p.table t).state = .valid → mapRules (usedEntries (p.table t))

/-- The full-speed errors, in force and pending, are above 0 (R46); a CALLING compartment has a value (R58, R59), and
none is CALLING where nothing is controlled (R65). -/
def Part.callsSound (p : Part) : Prop :=
  (∀ c, 0 < (p.comp c).tuning.eFull ∧ (∀ t, (p.comp c).pending = some t → 0 < t.eFull) ∧
    ((p.comp c).demand = .calling → (p.comp c).air ≠ none)) ∧
    (p.active = false → ∀ c, (p.comp c).demand ≠ .calling)

/-- Outside REGULATE and SERVICE every compartment is held IDLE, its warm alarm CLEAR and no tuning pending (R65). -/
def Part.demandsHeld (p : Part) : Prop :=
  p.active = false → ∀ c, (p.comp c).demand = .idle ∧ (p.comp c).urgent = false ∧ (p.comp c).blind = .stopped ∧
    (p.comp c).warm = .clear ∧ (p.comp c).warmCount = 0 ∧ (p.comp c).pending = none

/-- A door stands open exactly while its point resolves to 1, and has an open-since second then and only then (R127,
R129). -/
def Part.doorsFollow (p : Part) : Prop :=
  ∀ i d, doorOfPoint i = some d →
    ((p.door d).isOpen = true ↔ (p.point i).resolved.map (fun x => x.value) = some 1) ∧
    ((p.door d).isOpen = true ↔ (p.door d).openSince ≠ none)

end Sys2Proof.Machine
end

