-- ==== Sys2Proof/WellFormed.lean ====
section
/-! DEFINITION. What a command must be to be one that the links and the part's own timers can raise. -/

namespace Sys2Proof

/-- A frame's payload has at most 40 bytes (R188). -/
def Frame.fits (f : Frame) : Bool := decide (f.payload.length ≤ 40)

/-- A frame from the appliance controller to a cabinet node that is not discarded (R189): a REQUEST has a
payload. -/
def Frame.relays (f : Frame) : Bool :=
  decide (f.src = 0 ∧ 2 ≤ f.dst.toNat ∧ f.dst.toNat ≤ 62 ∧ ¬(f.kind = 5 ∧ f.payload = []))

/-- The entries that TABLE DATA carries fit behind its name code and table id. -/
def dataFits : Args TableDataArgs → Bool
  | .form a => decide (a.bytes.length ≤ 38)
  | .illFormed => true

/-- A name code that names no request (R191). -/
def unknownCode (code : Byte) : Bool := decide (code = 0 ∨ 25 < code.toNat)

/-- The commands that can arise: a relay frame is one that R189 passes on, an unknown request has an
unknown name code, an override slot is one of the four of a stack (R49), and a polled node has a cabinet
address (R188). -/
def Instr.wf : Instr → Bool
  | .tableData a => dataFits a
  | .unknownRequest code => unknownCode code
  | .relayFrame f => f.fits && f.relays
  | .overrideExpiry _ slot => decide (slot < 4)
  | .pollDue node => decide (2 ≤ node.toNat ∧ node.toNat ≤ 62)
  | .cabinetReply f => f.fits
  | .powerOnReset => true
  | .warmRestart _ => true
  | .restartTakesEffect => true
  | .identify _ => true
  | .query _ => true
  | .setMode _ => true
  | .setLock _ => true
  | .tableOpen _ => true
  | .tableClose _ => true
  | .tableAbort _ => true
  | .tableRead _ => true
  | .swapMap _ => true
  | .setSetpoint _ => true
  | .pushOverride _ => true
  | .popOverride _ => true
  | .clearOverrides _ => true
  | .injectSample _ => true
  | .defrostStart _ => true
  | .defrostHold _ => true
  | .defrostResume _ => true
  | .loadShed _ => true
  | .trip _ => true
  | .rearm _ => true
  | .clearFaults _ => true
  | .setAttentionMask _ => true
  | .doorRead _ => true
  | .mainFrameDiscard => true
  | .egressTransmit => true
  | .secondTick => true
  | .staleTimerExpiry _ => true
  | .blindTimerExpiry _ => true
  | .warmAlarmExpiry _ => true
  | .switchCompletion => true
  | .minimumHoldExpiry => true
  | .maximumHoldExpiry => true
  | .defrostDue => true
  | .shedDeferralRunOut => true
  | .heatTimeout => true
  | .budgetExhaustion => true
  | .dripTimerExpiry => true
  | .recoverTimerExpiry => true
  | .fanStopTimerExpiry _ => true
  | .ajarTimerExpiry _ => true
  | .refreshTimerExpiry _ => true
  | .offCycleTimerExpiry => true
  | .deviationTimerExpiry => true
  | .absenceTimerExpiry => true
  | .cleanTimerExpiry => true
  | .loadTimerExpiry => true
  | .cabinetFrameSent => true
  | .cabinetFrameDiscard => true
  | .replyWindowTimeout => true

end Sys2Proof
end

