-- ==== Sys2Proof/Certificates/Slice0/Obligations.lean ====
section
/-! DEFINITION. The statements for the provers. A state is written as a part and its waiting commands; `Runs c s p`
says that the command runs to the part `p` followed by the end of the event, and `Gives c s P` that it runs to a
part with `P`. Where a statement rests on a choice of the model, its docstring names the log entry under
notes/assumptions. -/

open Sys2Proof Sys2Proof.Machine

/-! ## Steps and the end of every event -/

/-- The command at the front of the queue is the one that runs, on the part with the queue's rest, and every
command runs to a next state and leaves the waiting commands as they are. With no command waiting, one
millisecond of the scheduler's time passes: that clause is the model's choice (log entry 1). -/
def Obligations.StepRunsTheFrontCommand : Prop :=
  (∀ c p l, step ⟨p, c :: l⟩ = exec c ⟨p, l⟩) ∧
    (∀ c s, ∃ p, exec c s = .next { s with part := p }) ∧
    ∀ p, step ⟨p, []⟩ =
      .next ⟨({ p with
        line.ms := p.line.ms + 1
        line.window := p.line.window.map fun n => n - 1 }).settle, []⟩

/-- What the end of an event can do (R144, R146, R151, R180, R192): only the slots, the line, the egress queue,
the DROP flag and the last-refusal record change; of a slot only its request, its outgoing value and its changed
mark; the request only in REGULATE and SERVICE and never under a trip mark; and a busy line is left alone. -/
def Obligations.EndOfEventReachesOnlyTheEdge : Prop :=
  ∀ p : Part, p.settle = p.withEdge p.settle ∧ FlagsKept p p.settle ∧ EdgeKept p p.settle ∧
    (∀ r, (p.slot r).tripMark = true → (p.settle.slot r).requested = (p.slot r).requested) ∧
    (p.mode = .bypass ∨ p.mode = .showroom →
      ∀ r, (p.settle.slot r).requested = (p.slot r).requested) ∧
    (p.line.state ≠ .free →
      p.settle.egress = p.egress ∧ p.settle.flags = p.flags ∧ p.settle.refusal = p.refusal ∧
        p.settle.refusals = p.refusals)

/-- The turn of the line (R180, R181, R145, R184): with the line FREE at the end of an event, the offering slot of
lowest number goes out with its outgoing value; with none, the relay queue's head and the due poll alternate;
with nothing waiting the line stays FREE. A relay frame to an owned role meets the policy check again when it is taken:
in BYPASS it goes out with the value that the trip (R168) and the interlock (R156) let out, in REGULATE and SHOWROOM it
is refused with MODE, in SERVICE it is absorbed as one that arrives. `p.placeAsks.screenAll` is the part after the asks
and the screening. The model's choices in it: log entries 7, 12, 13, 14 and 22. -/
def Obligations.ArbiterTakesSlotsThenAlternates : Prop :=
  (∀ p : Part, p.line.state = .free →
    (∀ r m v, p.placeAsks.screenAll.offers r = true →
      (∀ k, roleCode k < roleCode r → p.placeAsks.screenAll.offers k = false) →
      p.driveMap = some m → (p.placeAsks.screenAll.slot r).outgoing = some v →
      p.settle.line.state = .sending ∧ p.settle.line.cdir = .drive ∧
        p.settle.line.txn = some ⟨⟨BitVec.ofNat 8 (m.get r).node, 1, kindDrive,
          u8 (m.get r).channel ++ u16 v⟩, .slot r⟩ ∧
        p.settle.line.relay = p.line.relay ∧ p.settle.line.lastTaken = p.line.lastTaken) ∧
    ((∀ r, p.placeAsks.screenAll.offers r = false) →
      (p.line.relay = [] → p.duePoll = none → p.settle = p.placeAsks.screenAll) ∧
      (∀ n, p.duePoll = some n → (p.line.relay = [] ∨ p.line.lastTaken = .relay) →
        p.settle.line.state = .sending ∧ p.settle.line.lastTaken = .poll ∧
          p.settle.line.txn = some ⟨⟨BitVec.ofNat 8 n, 1, kindPoll, []⟩, .poll⟩ ∧
          p.settle.line.times =
            (p.line.times.map fun x => if x.1 = n then (n, p.line.ms + p.pathTuning.pollPeriod) else x)) ∧
      (∀ f rest, p.line.relay = f :: rest → (p.duePoll = none ∨ p.line.lastTaken = .poll) →
        p.ownedRole f = none →
        p.settle.line.state = .sending ∧ p.settle.line.lastTaken = .relay ∧
          p.settle.line.txn = some ⟨f, .relay none⟩ ∧ p.settle.line.relay = rest) ∧
      (∀ f rest, p.line.relay = f :: rest → (p.duePoll = none ∨ p.line.lastTaken = .poll) →
        p.settle = Part.arbitrate (rest.length + 1) ((p.placeAsks.screenAll).takeQueued f rest).screenAll))) ∧
    ∀ (p : Part) (f : Frame) rest r c hi lo, f.payload = [c, hi, lo] → p.addressed f r →
      let v := hi.toNat * 256 + lo.toNat
      let bad := (r = .heater ∨ r = .valve) ∧ 1 < v
      let asked := if p.trip.state ≠ .normal ∧ (r = .comp ∨ r = .heater) then 0 else v
      let stored := match r with
        | .comp => if v = 0 then 0 else p.limited v
        | .valve => v
        | .heater => v
        | _ => min 100 v
      let q : Part := { p with line.relay := rest, line.lastTaken := .relay }
      (p.mode = .bypass → ¬bad → p.takeQueued f rest = { q with
        line.state := .sending
        line.cdir := .drive
        line.txn := some ⟨{ f with payload := [c] ++ u16 ((p.screen r asked).getD asked) }, .relay (some r)⟩ }) ∧
      (p.mode = .regulate ∨ p.mode = .showroom → p.takeQueued f rest = q.refusedFor f .mode) ∧
      (p.mode = .bypass ∨ p.mode = .service → bad → p.takeQueued f rest = q.refusedFor f .range) ∧
      (p.mode = .service → ¬bad → (p.slot r).tripMark = true →
        p.takeQueued f rest = q.reply 64 .busy [f.dst, f.kind]) ∧
      (p.mode = .service → ¬bad → (p.slot r).tripMark = false →
        p.takeQueued f rest = (q.setSlot r { p.slot r with requested := stored }).reply 64
          (if stored = v then .ok else .clamped)
          ([f.dst, f.kind] ++ u8 (roleCode r) ++ u16 stored ++ optU16 (p.screen r stored)))

/-! ## Frames and their commands -/

/-- Frames written out byte by byte from R188 and R190, each with its check computed by hand, are the commands
they stand for. -/
def Obligations.WrittenFramesAreTheirCommands : Prop :=
  mainBytes [0x01, 0x00, 0x05, 0x01, 0x01, 0x73, 0xBD] = .identify (.form ()) ∧
    mainBytes [0x01, 0x00, 0x05, 0x04, 0x02, 0x01, 0x02, 0x00, 0x00, 0xD0] = .query (.form ⟨1, 2, 0⟩) ∧
    mainBytes [0x01, 0x00, 0x05, 0x04, 0x0C, 0x02, 0xF8, 0xF8, 0x69, 0xC7] =
      .setSetpoint (.form ⟨2, 0xF8F8#16⟩) ∧
    mainBytes [0x0A, 0x00, 0x03, 0x03, 0x01, 0x00, 0x3C, 0xB7, 0x61] =
      .relayFrame ⟨10, 0, kindDrive, [0x01, 0x00, 0x3C]⟩ ∧
    mainBytes [0x0A, 0x00, 0x03, 0x03, 0x01, 0x00, 0x3C, 0xB7, 0x60] = .mainFrameDiscard

/-- Decode and encode agree on the main link: the frame that spells a well-formed command, received byte by byte
with its check, is that command again. -/
def Obligations.MainLinkFrameDecodesToItsCommand : Prop :=
  ∀ c f, c.wf = true → frameOf c = some f → f.payload.length ≤ 40 ∧ mainBytes (frameBytes f) = c

/-! ## Requests in common -/

/-- A request that comes while a restart is pending is discarded without effect (R206), and one whose REPLY can
have no place is discarded with DROP raised for REPLY and nothing else changed (R191). -/
def Obligations.RequestsDiscardedUnanswered : Prop :=
  ∀ c v p l, requestView c = some v ∨ (∃ n, c = .unknownRequest n) →
    (p.restartPending = true → Runs c ⟨p, l⟩ p) ∧
    (p.restartPending = false → 8 ≤ p.egress.length → (∀ e, e ∈ p.egress → e.sort ≠ .readings) →
      Runs c ⟨p, l⟩ { p with
        flags := p.flags ||| BitVec.twoPow 12 10
        details.drop.reply := true })

/-- The common checks (R191, R203): an unknown name code is refused with UNKNOWN in every mode; in SHOWROOM every
other request but IDENTIFY, QUERY and SET MODE with RELEASE is refused with MODE; arguments not of the request's form
are refused with RANGE. A refused request changes nothing but the last-refusal record. The model's choices in it: log
entries 22 and 29. -/
def Obligations.CommonChecksRefuse : Prop :=
  (∀ n p l, p.answers → Runs (.unknownRequest n) ⟨p, l⟩ (p.refusedBy n .unknown [])) ∧
    ∀ c v p l, requestView c = some v → p.answers →
      (p.mode = .showroom → v.exempt = false →
        Runs c ⟨p, l⟩ (p.refusedBy v.code .mode (if v.maps then p.mapBytes else []))) ∧
      (p.mode ≠ .showroom ∨ v.exempt = true → v.formed = false →
        Runs c ⟨p, l⟩ (p.refusedBy v.code .range (if v.maps then p.mapBytes else [])))

/-- A REPLY and its place (R188, R192, R202): fewer than 8 frames, the tail; 8 frames, the oldest READINGS frame
makes room; 8 frames and none of them READINGS, it is discarded and DROP raised for REPLY. A READINGS frame
goes to the tail of fewer than 8 frames or is discarded with DROP raised for READINGS. -/
def Obligations.ReplyFindsItsPlace : Prop :=
  ∀ (p : Part) (code : Byte) (s : Status) (data : List Byte) (f : Frame),
    let e : Egress := ⟨.reply, ⟨0, 1, kindReply,
      code :: s.code :: (markByte (decide (p.flags &&& ~~~p.mask ≠ 0)) ++ data)⟩⟩
    (p.egress.length < 8 → p.reply code s data = { p with egress := p.egress ++ [e] } ∧
      p.placeReadings f = { p with egress := p.egress ++ [⟨.readings, f⟩] }) ∧
    (8 ≤ p.egress.length →
      (∀ a x b, p.egress = a ++ x :: b → x.sort = .readings → (∀ y, y ∈ a → y.sort ≠ .readings) →
        p.reply code s data = { p with egress := a ++ b ++ [e] }) ∧
      ((∀ y, y ∈ p.egress → y.sort ≠ .readings) →
        p.reply code s data = { p with
          flags := p.flags ||| BitVec.twoPow 12 10
          details.drop.reply := true }) ∧
      p.placeReadings f = { p with
        flags := p.flags ||| BitVec.twoPow 12 10
        details.drop.readings := true })

/-! ## The management unit -/

/-- IDENTIFY and QUERY (R205) are answered in every mode, change nothing, and the pages of QUERY, 35 bytes each,
joined are the subject's whole data. That data holds the fields of the subject's records in the order its rule lists them:
point (R24), compartment (R71), path (R104), defrost (R125), door (R133), faults (R205, R173) and table directory (R205).
The model's choices in it: log entry 7 for the layout within R188, 38 for the working copy as its used rows, 39 for
the coding of states that no rule lists, 40 for the forms of the table entries, and 22. -/
def Obligations.IdentifyAndQueryAnswer : Prop :=
  (∀ p l, p.answers → Runs (.identify (.form ())) ⟨p, l⟩ (p.reply 1 .ok
    ([83, 30, 1, 1] ++ u8 p.mode.code ++ optU8 (p.origin.map Origin.code) ++ u8 p.lockLevel ++
      markByte p.lockWritten ++ optU8 (p.load.map fun x => x.table.val) ++ u32 p.seconds.toNat))) ∧
    (∀ p l a, p.answers →
      (∀ k, subjectOf a.subject a.item = some k →
        (35 * a.page.toNat < (p.subjectData k).length →
          Runs (.query (.form a)) ⟨p, l⟩ (p.reply 2 .ok
            (a.page :: u8 (((p.subjectData k).length + 34) / 35) ++
              ((p.subjectData k).drop (a.page.toNat * 35)).take 35))) ∧
        ((p.subjectData k).length ≤ 35 * a.page.toNat →
          Runs (.query (.form a)) ⟨p, l⟩ (p.refusedBy 2 .range []))) ∧
      (subjectOf a.subject a.item = none → Runs (.query (.form a)) ⟨p, l⟩ (p.refusedBy 2 .range []))) ∧
    (∀ data : List Byte, ((List.range (pageCount data)).map (pageBytes data)).flatten = data) ∧
    ∀ p : Part,
      let timer (t : Timer) : List Byte :=
        u16 (match t with | .stopped => 65535 | .running n => n | .expired => 0)
      let since (t : Second) : Nat := (p.seconds - t).toNat
      let set (l : List Bool) : List Byte := u16 (l.zipIdx.map fun x => if x.1 then 2 ^ x.2 else 0).sum
      let raised (b : Bool) : List Byte := u8 (if b then 0 else 1)
      let tuning (t : Tuning) : List Byte :=
        i16 t.dIn ++ i16 t.dOut ++ i16 t.eUrg ++ i16 t.eFull ++ u16 t.fan ++ u16 t.blindOn ++ u16 t.blindOff ++
          i16 t.warmTemp ++ u16 t.warmDelay ++ u16 t.doorMin ++ i16 t.doorOffset ++ u16 t.doorDuration
      let calls (c : Comp) : Bool := decide ((p.comp c).demand = .calling ∨ (p.comp c).demand = .blindCall)
      (∀ i : PointId,
        let x := p.point i
        p.subjectData (.point i) = u8 i.val ++ u8 x.state.code ++ i16 x.filtered ++ optU16 x.lastRaw ++
          u16 (match x.lastSecond with | none => 65535 | some t => min 65534 (since t)) ++ timer x.stale ++
          (match x.resolved with
            | none => i16 (-32768) ++ u8 255 ++ u8 0
            | some r => i16 r.value ++ u8 r.source.val ++ u8 r.links) ++
          (if i.val ≤ 2 then markByte x.lost else []) ++
          optU8 (p.pointSet[i].fallback.map fun j => j.val) ++ u16 p.pointSet[i].staleTime) ∧
      (∀ c : Comp,
        let r := p.comp c
        p.subjectData (.comp c) = i16 r.base ++ i16 r.spMin ++ i16 r.spMax ++ i16 r.effective ++
          (u8 r.stack.length ++ (r.stack.reverse.map fun o => u8 o.kind.code ++ i16 o.value ++ u16 o.duration ++
            u16 o.remaining ++ u8 o.origin.code ++ u8 o.tag.code).flatten) ++
          optI16 r.air ++ markByte r.lost ++ optI16 (r.air.map fun v => v - r.effective) ++
          u8 r.demand.code ++ markByte r.urgent ++ timer r.blind ++ u8 r.warm.code ++ u16 r.warmCount ++
          tuning r.tuning ++ (match r.pending with | none => u8 0 | some t => u8 1 ++ tuning t) ++
          (if c = .ff then raised (calls .ff) ++ markByte r.urgent
            else raised (calls .fz || calls .cd) ++ markByte ((p.comp .fz).urgent || (p.comp .cd).urgent))) ∧
      (
        let r := p.path
        let claim (k : Claimant) : List Byte := markByte (r.claims.get k).raised ++ u8 (r.claims.get k).cls
        p.subjectData .path = u8 r.state.code ++ optU8 (r.holder.map fun k => k.code) ++
          optU8 (r.holder.map fun k => (r.claims.get k).cls) ++ u8 r.valve.code ++
          markByte r.runStarted ++ markByte r.satisfied ++
          timer r.switchTimer ++ timer r.minHold ++ timer r.maxHold ++
          (u8 r.queue.length ++ (r.queue.map fun k => u8 k.code ++ u8 (r.claims.get k).cls).flatten) ++
          claim .ff ++ claim .fz ++ markByte r.recover ++ claim .df ++
          u16 r.speed ++ optU16 r.prevSpeed ++ u16 r.divider ++ markByte r.shed ++
          u16 (if r.shed then clampNat p.pathLimits.sMin p.pathLimits.sMax p.pathTuning.shedCeiling
            else p.pathLimits.sMax) ++
          u16 p.pathLimits.sMin ++ u16 p.pathLimits.sMax ++
          optU16 (p.slot .comp).sent ++ optU8 (p.slot .valve).sent) ∧
      (
        let d := p.defrost
        p.subjectData .defrost = u8 d.phase.code ++ u32 d.accumulation ++ u32 d.interval ++ optSecond d.dueSince ++
          markByte d.shedCopy ++
          u8 (match d.phase, d.dueSince with
            | .due, some t => if p.defrostSet.maxDeferral ≤ since t then 1 else 0
            | _, _ => 255) ++
          raised d.dfClaim ++ raised d.recoverClaim ++ u16 d.heatTime ++ u16 d.budget ++
          timer d.drip ++ timer d.recover ++ optI16 d.coil ++ markByte d.heater ++
          (match d.last with
            | none => u8 0
            | some x => u8 1 ++ u16 x.heatTime ++ u16 x.holdUsed ++ u8 x.cause.code ++
              u32 (x.interval.getD 4294967295) ++ u32 x.second.toNat) ++
          (u32 p.defrostSet.firstInterval ++ u16 p.defrostSet.doorWeight ++ i16 p.defrostSet.terminate ++
            i16 p.defrostSet.recoverFan ++ u16 p.defrostSet.recoverTime ++ u16 p.defrostSet.maxDeferral) ++
          (u8 p.intervals.length ++ (p.intervals.map fun x => u16 x.heatLimit ++ u32 x.interval).flatten)) ∧
      (
        let one (i : DoorId) : List Byte :=
          let d := p.door i
          u8 (if d.isOpen then 0 else 1) ++ optSecond d.openSince ++ optU16 d.width ++
            optU8 (d.widthLevel.map fun w => w.code) ++ markByte d.unread ++ markByte d.overcapture ++
            timer d.fanStop ++ markByte d.stopActive ++ timer d.ajar ++ markByte d.ajarMark ++
            u16 (p.doorSet.get i).fanStopDelay ++ u16 (p.doorSet.get i).ajarTime
        p.subjectData .door = one .ffL ++ one .ffR ++ one .cd ++ one .fz ++
          markByte ((p.door .ffL).stopActive || (p.door .ffR).stopActive) ++ markByte (p.door .fz).stopActive ++
          markByte (p.door .cd).stopActive ++ markByte (p.hasFlag .doorAjar) ++
          set [p.details.ajar.ffL, p.details.ajar.ffR, p.details.ajar.cd, p.details.ajar.fz]) ∧
      (
        let d := p.details
        let t := p.trip
        let causes (c : Causes) : List Byte := set [c.driveFault, c.driveSilent, c.hostTrip]
        let code (b : Bool) : Nat := if b then 1 else 0
        p.subjectData .faults = u16 p.flags.toNat ++
          set d.sensor.toList ++ set [d.blind.ff, d.blind.cd, d.blind.fz] ++
          set [d.overflow.ff, d.underflow.ff, d.overflow.cd, d.underflow.cd, d.overflow.fz, d.underflow.fz] ++
          set [d.warm.ff, d.warm.cd, d.warm.fz] ++ u16 d.defrostLong ++
          set [d.ajar.ffL, d.ajar.ffR, d.ajar.cd, d.ajar.fz] ++ causes d.trip ++
          set [d.drive.comp, d.drive.valve, d.drive.heater, d.drive.fanFF, d.drive.fanFZ, d.drive.fanCond,
            d.drive.damperCD] ++
          set [d.drop.readings, d.drop.reply, d.drop.relay] ++
          u32 (d.load.toList.zipIdx.map fun x => if x.1 then 2 ^ x.2 else 0).sum ++
          u16 p.mask.toNat ++
          markByte ((List.finRange 12).any fun k => p.flags.getLsbD k && !p.mask.getLsbD k) ++
          (match p.refusal with
            | none => u8 0
            | some r => u8 1 ++ [r.code, r.source, r.dest, r.status] ++ u32 r.second.toNat) ++
          u16 p.refusals ++
          u8 t.state.code ++ optU8 (t.first.map fun c => c.code) ++ optSecond t.second ++ causes t.causes ++
          u16 t.silent ++ timer t.absence ++ u16 t.rearms ++ timer t.clean ++
          (match t.last with
            | none => u8 0
            | some x => u8 1 ++ optU8 (x.first.map fun c => c.code) ++ causes x.causes ++ optSecond x.second ++
              u8 x.how.code) ++
          u8 (code p.tripSet.holdFF) ++ u8 (code p.tripSet.holdFZ) ++ u8 (code p.tripSet.holdCond) ++
          u8 (code p.tripSet.holdDamper) ++ u8 (1 - code p.tripSet.autoRearm) ++ u16 p.tripSet.rearmDelay) ∧
      p.subjectData .directory =
        ((List.finRange 21).map fun t =>
          u16 (entryCount t) ++ u8 (lockLevelOf t) ++ u8 (p.table t).state.code).flatten ++
        u8 p.activeMap.code ++ u8 p.lockLevel ++ markByte p.lockWritten ++
        (match p.load with
          | none => u8 255 ++ u8 255 ++ u16 65535
          | some x => u8 x.table.val ++ u8 x.cursor ++ timer x.timer)

/-- The moves of R193: the target, the mode and origin it leads to, and what each block takes of it: the points (R14), the
compartments with their demand, tuning and warm alarm (R65, R68), the path, cleared on leaving REGULATE and with the raised
claims taken up at its entry (R77, R101 to R103), the defrost, aborted or
its RECOVER ended (R113, R123), the doors, closed with LOST at an entry to REGULATE from BYPASS (R138), and the slots'
requests (R146, R147). The two laws in its premises, and `Part.resolutionsStand`, are kept by every step
(`Obligations.CompartmentsLimitsAndLoadsStaySound`, `Obligations.ResolutionsStandAndAreFollowed`). That COMP is asked for
0 at an entry to BYPASS from SERVICE is read from R77 (log entry 19). -/
def Obligations.SetModeMoves : Prop :=
  ∀ p l b m o, p.answers →
    (p.mode = .bypass ∧ b = 1 ∧ p.mapsValid = true ∧ m = .regulate ∧ o = none ∨
      p.mode = .bypass ∧ b = 3 ∧ m = .showroom ∧ o = some .bypass ∨
      p.mode = .regulate ∧ b = 0 ∧ m = .bypass ∧ o = none ∨
      p.mode = .regulate ∧ b = 2 ∧ p.defrost.phase.busy = false ∧ m = .service ∧ o = none ∨
      p.mode = .regulate ∧ b = 3 ∧ p.defrost.phase.busy = false ∧ m = .showroom ∧ o = some .regulate ∨
      p.mode = .service ∧ b = 0 ∧ m = .bypass ∧ o = none ∨
      p.mode = .service ∧ b = 1 ∧ p.mapsValid = true ∧ m = .regulate ∧ o = none ∨
      p.mode = .showroom ∧ b = 4 ∧ p.origin = some .bypass ∧ m = .bypass ∧ o = none ∨
      p.mode = .showroom ∧ b = 4 ∧ p.origin = some .regulate ∧ m = .regulate ∧ o = none) →
    Gives (.setMode (.form b)) ⟨p, l⟩ fun q =>
      q.mode = m ∧ q.origin = o ∧
      (∃ att, q.holdsReply 3 .ok att (u8 m.code ++ optU8 (o.map Origin.code))) ∧
      (m = .regulate → q.path.state.takes = decide (p.trip.state = .normal)) ∧
      (m = .bypass ∨ m = .showroom → q.path.state = .parked ∧ ∀ c, q.comp c = { p.comp c with
        demand := .idle
        urgent := false
        blind := .stopped
        warm := .clear
        warmCount := 0
        tuning := (p.comp c).pending.getD (p.comp c).tuning
        pending := none }) ∧
      (m = .service → q.path.state = if p.trip.state = .normal then .service else .tripped) ∧
      (p.mode = .bypass → m = .regulate → ∀ i, (q.point i).state = .unseen ∧
        (q.point i).stale = .running p.pointSet[i].staleTime ∧ (q.point i).resolved = none ∧
        (q.point i).filtered = (p.point i).filtered) ∧
      (p.mode = .bypass → m = .regulate → ∀ c, (q.comp c).demand = .waiting ∧
        (p.demandsHeld → p.resolutionsStand → q.comp c = { p.comp c with
          demand := .waiting
          air := none
          lost := false })) ∧
      (p.mode = .service ∧ m = .regulate ∨ m = .service → q.comps = p.comps) ∧
      (p.mode = .showroom → m = .regulate → p.demandsHeld → ∀ c,
        let r := p.comp c
        (r.lost = true → q.comp c = { r with demand := .blindCall, blind := .running r.tuning.blindOn } ∧
          q.hasFlag .blind = true ∧ q.details.blind.get c = true) ∧
        (∀ v, r.lost = false → r.air = some v → q.comp c = { r with
          demand := if r.tuning.dIn ≤ v - r.effective then .calling else .idle
          urgent := decide (r.tuning.dIn ≤ v - r.effective ∧ r.tuning.eUrg ≤ v - r.effective) }) ∧
        (r.lost = false → r.air = none → q.comp c = { r with demand := .waiting })) ∧
      (m = .bypass → ∀ i, (q.point i).stale = .stopped ∧ (q.point i).filtered = (p.point i).filtered ∧
        (q.point i).state = (p.point i).state) ∧
      (p.mode ≠ .bypass ∨ m ≠ .regulate → m ≠ .bypass → q.points = p.points) ∧
      (p.mode = .bypass → m = .regulate → p.doorsFollow → ∀ d,
        (∀ t, (p.door d).isOpen = true → (p.door d).openSince = some t → q.door d =
          ⟨false, none, some (min 65535 (p.seconds - t).toNat), some .lost, true,
            (p.door d).overcapture || (p.door d).unread, .stopped, false, .stopped, false⟩) ∧
        ((p.door d).isOpen = false → q.door d = p.door d)) ∧
      (p.mode ≠ .bypass ∨ m ≠ .regulate → q.doors = p.doors) ∧
      (p.mode = .regulate → q.path.holder = none ∧ q.path.queue = [] ∧ q.path.speed = 0 ∧ q.offCycle = .stopped ∧
        q.path.runStarted = false ∧ q.path.satisfied = false ∧ q.path.switchTimer = .stopped ∧
        q.path.minHold = .stopped ∧ q.path.maxHold = .stopped ∧ q.path.valve = p.valveSent) ∧
      (m = .regulate → p.trip.state = .normal → p.path.state.takes = false → q.tookUp p.valveSent) ∧
      (m = .regulate → p.trip.state ≠ .normal → q.path.state = .tripped) ∧
      (p.mode = .service → m = .regulate → ∀ k, (q.path.claims.get k).raised = (p.path.claims.get k).raised ∧
        (q.path.claims.get k).cls = (p.path.claims.get k).cls) ∧
      (p.claimsAgree → q.claimsAgree) ∧
      (∀ r, (p.slot r).tripMark = false →
        let kept := (q.slot r).requested = (p.slot r).requested
        (m = .showroom ∨ m = .service ∧ p.line.drained →
          if r = .valve then kept else (q.slot r).requested = 0) ∧
        (m = .bypass → r = .comp → p.mode ≠ .showroom → (q.slot r).requested = 0) ∧
        (m = .bypass → r ≠ .comp ∨ p.mode = .showroom → r ≠ .heater ∨ p.defrost.heater = false → kept) ∧
        (m = .regulate → r = .heater → (q.slot r).requested = if q.defrost.heater = true then 1 else 0)) ∧
      (m = .bypass ∨ m = .showroom → p.defrost.phase = .recover →
        q.defrost.recover = .stopped ∧ q.defrost.recoverClaim = false ∧ q.path.recover = false ∧
        (p.defrost.accumulation < p.defrost.interval → q.defrost.phase = .idle) ∧
        (p.defrost.interval ≤ p.defrost.accumulation →
          q.defrost.phase = .due ∧ q.defrost.dueSince = some p.seconds)) ∧
      (m ≠ .regulate → p.defrost.phase = .idle ∨ p.defrost.phase = .due ∨ m = .service → q.defrost = p.defrost) ∧
      (m = .regulate → if p.defrost.phase = .due then q.defrost.phase = .due ∨ q.defrost.phase = .prep
        else q.defrost = { p.defrost with coil := q.defrost.coil }) ∧
      (m = .regulate → if p.mode = .bypass then p.resolutionsStand → q.defrost.coil = none
        else q.defrost.coil = p.defrost.coil) ∧
      (m = .bypass → p.defrost.phase.busy = true → q.defrost.phase = .due ∧
        q.defrost.last = some ⟨p.defrost.heatTime, p.defrost.budgetLoaded - p.defrost.budget, .abortedMode, none,
          p.seconds⟩ ∧
        (p.defrost.heater = true → p.slots.heater.tripMark = false → q.slots.heater.requested = 0)) ∧
      q.tables = p.tables ∧ q.load = p.load ∧ q.trip = p.trip ∧ q.seconds = p.seconds ∧ q.mask = p.mask ∧
      q.lockLevel = p.lockLevel ∧ q.lockWritten = p.lockWritten ∧ q.activeMap = p.activeMap ∧
      q.pointSet = p.pointSet ∧ q.driveMap = p.driveMap ∧ q.compStop = p.compStop ∧
      q.heaterOff = p.heaterOff ∧ EdgeKept p q

/-- The other answers of R193: the present mode as the target has no effect; targets outside the list are refused with
RANGE, moves that the table does not give with MODE, INVALID or BUSY. The model's choices in it: log entry 22. -/
def Obligations.SetModeAnswersWithoutMoving : Prop :=
  (∀ p l, p.serves →
    Runs (.setMode (.form (BitVec.ofNat 8 p.mode.code))) ⟨p, l⟩
      (p.reply 3 .ok (u8 p.mode.code ++ optU8 (p.origin.map Origin.code)))) ∧
    (∀ p l b, p.serves → 4 < b.toNat → Runs (.setMode (.form b)) ⟨p, l⟩ (p.refusedBy 3 .range [])) ∧
    (∀ p l b, p.serves →
      (p.mode = .bypass ∧ (b = 2 ∨ b = 4) ∨ p.mode = .regulate ∧ b = 4 ∨
        p.mode = .service ∧ (b = 3 ∨ b = 4)) →
      Runs (.setMode (.form b)) ⟨p, l⟩ (p.refusedBy 3 .mode [])) ∧
    (∀ p l, p.serves → p.mode = .bypass ∨ p.mode = .service → p.mapsValid = false →
      Runs (.setMode (.form 1)) ⟨p, l⟩ (p.refusedBy 3 .invalid [])) ∧
    ∀ p l b, p.serves → p.mode = .regulate → p.defrost.phase.busy = true → b = 2 ∨ b = 3 →
      Runs (.setMode (.form b)) ⟨p, l⟩ (p.refusedBy 3 .busy [])

/-- SET LOCK (R200): once written it is refused with LOCKED; a level above 3 is refused with RANGE and leaves the mark
clear; a level of 0..3 is stored with the mark. The model's choices in it: log entry 22. -/
def Obligations.SetLockWritesOnce : Prop :=
  ∀ p l b, p.serves →
    (p.lockWritten = true → Runs (.setLock (.form b)) ⟨p, l⟩ (p.refusedBy 4 .locked [])) ∧
    (p.lockWritten = false → 3 < b.toNat → Runs (.setLock (.form b)) ⟨p, l⟩ (p.refusedBy 4 .range [])) ∧
    (p.lockWritten = false → b.toNat ≤ 3 →
      Runs (.setLock (.form b)) ⟨p, l⟩
        (({ p with lockLevel := b.toNat, lockWritten := true }).reply 4 .ok []))

/-- Whole-machine frames of the management unit: the lock level and its mark change only by SET LOCK and
power-on reset (R200), the attention mask only by SET ATTENTION MASK and the two resets (R202, R207), the seconds
count only by a second and the two resets (R204), the mode only by SET MODE and the two resets (R193, R207), and
the active map only by SWAP MAP and power-on reset (R40, R43). -/
def Obligations.OwnersAloneChangeTheirState : Prop :=
  ∀ c s t, exec c s = .next t →
    ((∀ a, c ≠ .setLock a) → c ≠ .powerOnReset →
      t.part.lockLevel = s.part.lockLevel ∧ t.part.lockWritten = s.part.lockWritten) ∧
    ((∀ a, c ≠ .setAttentionMask a) → c ≠ .powerOnReset → c ≠ .restartTakesEffect →
      t.part.mask = s.part.mask) ∧
    (c ≠ .secondTick → c ≠ .powerOnReset → c ≠ .restartTakesEffect → t.part.seconds = s.part.seconds) ∧
    ((∀ a, c ≠ .setMode a) → c ≠ .powerOnReset → c ≠ .restartTakesEffect →
      t.part.mode = s.part.mode ∧ t.part.origin = s.part.origin) ∧
    ((∀ a, c ≠ .swapMap a) → c ≠ .powerOnReset → t.part.activeMap = s.part.activeMap)

/-- CLEAR FAULTS and SET ATTENTION MASK (R201, R202): each named flag is cleared with its detail emptied and set again
at once with the detail of its level condition, the others and their details stay, and the reply gives the flags set;
the mask is replaced, and the reply's attention is computed with the new mask (`Obligations.ReplyFindsItsPlace` says
how). The model's choices in it: log entries 9 and 22. -/
def Obligations.ClearFaultsAndMask : Prop :=
  (∀ p l (h : Half), p.serves → h.toNat < 4096 → ∃ q : Part,
    let named (f : Flag) : Bool := h.getLsbD f.row
    Runs (.clearFaults (.form h)) ⟨p, l⟩ (q.reply 23 .ok (u16 q.flags.toNat)) ∧
    q = { p with flags := q.flags, details := q.details } ∧
    (∀ f, named f = false → q.hasFlag f = p.hasFlag f) ∧
    (∀ f, named f = true → (q.hasFlag f = true ↔
      (f = .blind ∧ ∃ c, (p.comp c).lost = true) ∨ (f = .warm ∧ ∃ c, (p.comp c).warm = .alarmed) ∨
      (f = .doorAjar ∧ ∃ d, (p.door d).ajarMark = true) ∨ (f = .trip ∧ p.trip.state ≠ .normal) ∨
      (f = .lockout ∧ p.trip.state = .lockout) ∨
      (f = .drive ∧ ∃ r x, r ≠ .comp ∧ (p.slot r).status = some x ∧ x.fault = true))) ∧
    (∀ i : PointId, q.details.sensor[i] = if named .sensor then false else p.details.sensor[i]) ∧
    (∀ c, q.details.blind.get c = if named .blind then (p.comp c).lost else p.details.blind.get c) ∧
    (∀ c, q.details.overflow.get c = if named .stack then false else p.details.overflow.get c) ∧
    (∀ c, q.details.underflow.get c = if named .stack then false else p.details.underflow.get c) ∧
    (∀ c, q.details.warm.get c =
      if named .warm then decide ((p.comp c).warm = .alarmed) else p.details.warm.get c) ∧
    (q.details.defrostLong = if named .defrostLong then 0 else p.details.defrostLong) ∧
    (∀ d, q.details.ajar.get d = if named .doorAjar then (p.door d).ajarMark else p.details.ajar.get d) ∧
    (q.details.trip = if named .trip = false then p.details.trip
      else if p.trip.state = .normal then ⟨false, false, false⟩ else p.trip.causes) ∧
    (∀ r, q.details.drive.get r = if named .drive = false then p.details.drive.get r
      else decide (r ≠ .comp ∧ ∃ x ∈ (p.slot r).status, x.fault = true)) ∧
    (q.details.drop = if named .drop then ⟨false, false, false⟩ else p.details.drop) ∧
    ∀ t : TableId, q.details.load[t] = if named .load then false else p.details.load[t]) ∧
    (∀ p l (h : Half), p.serves → h.toNat < 4096 →
      Runs (.setAttentionMask (.form h)) ⟨p, l⟩ (({ p with mask := h.setWidth 12 }).reply 24 .ok [])) ∧
    ∀ p l (h : Half), p.serves → 4096 ≤ h.toNat →
      Runs (.clearFaults (.form h)) ⟨p, l⟩ (p.refusedBy 23 .range []) ∧
      Runs (.setAttentionMask (.form h)) ⟨p, l⟩ (p.refusedBy 24 .range [])

/-- WARM RESTART and the egress queue (R189, R192, R206): the OK of WARM RESTART is placed, in a full queue in place of its
oldest READINGS frame, and a restart is pending;
the head of the queue leaves it when its transmission begins, behind the OK of a pending restart nothing does; a
main-link frame that is discarded changes nothing. The OK carries the mark that the model keeps to know it by. The
model's choices in it: log entries 21 and 28. -/
def Obligations.EgressAndPendingRestart : Prop :=
  (∀ p l, p.serves → p.egress.length < 8 →
    Runs (.warmRestart (.form ())) ⟨p, l⟩ { p with
      egress := p.egress ++ [⟨.restartReply, ⟨0, 1, kindReply, [5, 0] ++ markByte p.attention⟩⟩]
      restartPending := true }) ∧
    (∀ p l (a b : List Egress) x, p.serves → 8 ≤ p.egress.length → p.egress = a ++ x :: b → x.sort = .readings →
      (∀ y, y ∈ a → y.sort ≠ .readings) →
      Runs (.warmRestart (.form ())) ⟨p, l⟩ { p with
        egress := a ++ b ++ [⟨.restartReply, ⟨0, 1, kindReply, [5, 0] ++ markByte p.attention⟩⟩]
        restartPending := true }) ∧
    (∀ p l e rest, p.egress = e :: rest →
      (p.restartPending = false ∨ ∃ x, x ∈ p.egress ∧ x.sort = .restartReply) →
      Runs .egressTransmit ⟨p, l⟩ { p with egress := rest, mtx := some e }) ∧
    (∀ p l, p.egress = [] → Runs .egressTransmit ⟨p, l⟩ p) ∧
    (∀ p l, p.restartPending = true → (∀ x, x ∈ p.egress → x.sort ≠ .restartReply) →
      Runs .egressTransmit ⟨p, l⟩ p) ∧
    ∀ s, exec .mainFrameDiscard s = .next s

/-! ## The two resets -/

/-- The management unit after either reset (R204, R206, R207). WARM RESTART takes effect when its OK has left the queue;
that the model knows that OK by its mark is log entry 21, and that the kept seconds are carried over into the new count
log entry 31. -/
def Obligations.ResetsOfTheManagementUnit : Prop :=
  (∀ s, ∃ q, exec .powerOnReset s = .next ⟨q, s.pending⟩ ∧
    q.mode = .bypass ∧ q.origin = none ∧
    (∀ t : TableId, (q.table t).state = if 2 ≤ t.val ∧ t.val ≤ 9 ∨ t.val = 11 then .invalid else .valid) ∧
    q.load = none ∧ q.lockLevel = 0 ∧ q.lockWritten = false ∧ q.flags = 0 ∧ q.details = .empty ∧
    q.mask = 0 ∧ q.egress = [] ∧ q.refusal = none ∧ q.refusals = 0 ∧ q.seconds = 0 ∧
    q.restartPending = false) ∧
  ∀ p l, p.restartPending = true → (∀ x, x ∈ p.egress → x.sort ≠ .restartReply) →
    Gives .restartTakesEffect ⟨p, l⟩ fun q =>
      q.mode = .bypass ∧ q.origin = none ∧
      (∀ t : TableId, (q.table t).entries = (p.table t).entries ∧ (q.table t).state =
        if p.load.map (fun x => x.table) = some t then .invalid else (p.table t).state) ∧
      q.load = none ∧ q.lockLevel = p.lockLevel ∧ q.lockWritten = p.lockWritten ∧
      (p.load = none → q.flags = 0 ∧ q.details = .empty) ∧
      (∀ x, p.load = some x → q.flags = BitVec.twoPow 12 11 ∧
        q.details = { Details.empty with load := (Vector.replicate 21 false).set x.table true }) ∧
      q.mask = 0 ∧ q.egress = [] ∧ q.refusal = none ∧ q.refusals = 0 ∧ q.seconds = 0 ∧
      (∀ t, p.compStop = some t → ∃ t', q.compStop = some t' ∧ q.seconds - t' = p.seconds - t) ∧
      (∀ t, p.heaterOff = some t → ∃ t', q.heaterOff = some t' ∧ q.seconds - t' = p.seconds - t) ∧
      (∀ t, p.defrost.phase = .due ∨ p.defrost.phase.busy = true → p.defrost.dueSince = some t →
        ∃ t', q.defrost.dueSince = some t' ∧ q.seconds - t' = p.seconds - t) ∧
      q.restartPending = false

/-- What the other blocks keep of their state over WARM RESTART and what they take anew (R26, R72, R105, R126, R139,
R161, R174, R187). The model's choices in it: log entries 21 and 31, and log entry 32 for the arrival and urgent-since keys
of the withdrawn claims of FF and FZ, which the spec does not give and the model has at 0. -/
def Obligations.WarmRestartOfTheBlocks : Prop :=
  ∀ p l, p.restartPending = true → (∀ x, x ∈ p.egress → x.sort ≠ .restartReply) →
    Gives .restartTakesEffect ⟨p, l⟩ fun q =>
      (∀ i, q.point i = Point.initial) ∧ q.pointSet = p.pointSet ∧ q.activeMap = p.activeMap ∧
      (∀ c, q.comp c = CompRec.afterReset (clampInt (p.comp c).spMin (p.comp c).spMax (initialBase c))
        (p.comp c).spMin (p.comp c).spMax ((p.comp c).pending.getD (p.comp c).tuning)) ∧
      q.path = { PathRec.initial with claims := q.path.claims, nextKey := q.path.nextKey } ∧
      q.path.claims.ff = PathRec.initial.claims.ff ∧ q.path.claims.fz = PathRec.initial.claims.fz ∧
      q.path.claims.df.raised = q.defrost.dfClaim ∧ q.path.claims.df.cls = 0 ∧
      q.pathLimits = p.pathLimits ∧ q.pathTuning = p.pathTuning ∧
      q.defrost.accumulation = p.defrost.accumulation ∧ q.defrost.interval = p.defrost.interval ∧
      q.defrost.last = p.defrost.last ∧ q.defrost.heater = false ∧ q.defrost.shedCopy = false ∧
      (p.defrost.phase = .due ∨ p.defrost.phase.busy = true →
        q.defrost.phase = .due ∧ q.defrost.dfClaim = true ∧
        q.defrost.dueSince = p.defrost.dueSince.map fun t => t - p.seconds) ∧
      (p.defrost.phase = .idle ∨ p.defrost.phase = .recover →
        p.defrost.interval ≤ p.defrost.accumulation →
        q.defrost.phase = .due ∧ q.defrost.dfClaim = true ∧ q.defrost.dueSince = some 0) ∧
      (p.defrost.phase = .idle ∨ p.defrost.phase = .recover →
        p.defrost.accumulation < p.defrost.interval →
        q.defrost.phase = .idle ∧ q.defrost.dfClaim = false ∧ q.defrost.dueSince = none) ∧
      q.defrostSet = p.defrostSet ∧ q.intervals = p.intervals ∧
      (∀ d, q.door d = DoorRec.initial) ∧ q.doorSet = p.doorSet ∧
      (∀ r, (q.slot r).requested = initialRequest r ∧ (q.slot r).sent = (p.slot r).sent ∧
        (q.slot r).refresh = .stopped ∧ (q.slot r).due = (p.slot r).sent.isSome ∧
        (q.slot r).tripMark = false ∧ (q.slot r).status = none ∧
        (q.slot r).changed = ((q.slot r).outgoing.isSome && !((q.slot r).outgoing == (q.slot r).sent))) ∧
      q.driveMap = p.driveMap ∧ q.interlock = p.interlock ∧ q.offCycle = .stopped ∧ q.damper = .watching ∧
      q.deviation = .stopped ∧
      q.trip = { TripRec.initial with last := q.trip.last } ∧
      q.trip.last = (if p.trip.state = .normal then p.trip.last
        else some ⟨p.trip.first, p.trip.causes, p.trip.second, .warmRestart⟩) ∧
      q.tripSet = p.tripSet ∧
      q.line = LineRec.afterReset ((nodesOf (p.table p.activeMap.table)).map fun n => (n, 0))

/-! ## Tables -/

/-- TABLE OPEN (R195): its checks in their order, and what it does. The model's choices in it: log entry 22. -/
def Obligations.TableOpenChecksAndLoads : Prop :=
  ∀ p l (a : TableOpenArgs), p.serves →
    (20 < a.table.toNat → Runs (.tableOpen (.form a)) ⟨p, l⟩ (p.refusedBy 6 .range [])) ∧
    ∀ t : TableId, t.val = a.table.toNat →
      (entryCount t ≤ a.start.toNat →
        Runs (.tableOpen (.form a)) ⟨p, l⟩ (p.refusedBy 6 .range [])) ∧
      (a.start.toNat < entryCount t →
        (p.load ≠ none → Runs (.tableOpen (.form a)) ⟨p, l⟩ (p.refusedBy 6 .busy [])) ∧
        (p.load = none →
          (0 < lockLevelOf t → lockLevelOf t ≤ p.lockLevel →
            Runs (.tableOpen (.form a)) ⟨p, l⟩ (p.refusedBy 6 .locked [])) ∧
          (lockLevelOf t = 0 ∨ p.lockLevel < lockLevelOf t →
            (t = p.activeMap.table →
              Runs (.tableOpen (.form a)) ⟨p, l⟩ (p.refusedBy 6 .inUse [])) ∧
            (t ≠ p.activeMap.table → Runs (.tableOpen (.form a)) ⟨p, l⟩
              (({ p with
                tables := p.tables.set t { p.table t with state := .loading }
                load := some ⟨t, a.start.toNat, .running 30⟩ }).reply 6 .ok [])))))

/-- TABLE DATA (R196): refused with NOT_HELD without an open load of that table, with RANGE unless its bytes are a
positive whole number of entries; else the entries are stored in turn from the cursor, wrapping, the last write to an
index winning, the cursor stands behind the last and the timer is loaded again. The model's choices in it: log entries
7, 22 and 40. -/
def Obligations.TableDataStoresInTurn : Prop :=
  ∀ p l (a : TableDataArgs), p.serves →
    ((∀ x, p.load = some x → x.table.val ≠ a.table.toNat) →
      Runs (.tableData (.form a)) ⟨p, l⟩ (p.refusedBy 7 .notHeld [])) ∧
    ∀ x, p.load = some x → x.table.val = a.table.toNat →
      (a.bytes = [] ∨ a.bytes.length % entrySize x.table ≠ 0 →
        Runs (.tableData (.form a)) ⟨p, l⟩ (p.refusedBy 7 .range [])) ∧
      ∀ es, es ≠ [] →
        (∀ e, e ∈ es → e.length = (tableForms x.table).length ∧
          (List.zipWith Form.fits (tableForms x.table) e).all (fun b => b) = true) →
        a.bytes = (es.map (writeEntry (tableForms x.table))).flatten →
        x.cursor < entryCount x.table → (p.table x.table).entries.length = entryCount x.table →
        ∃ stored : List (List Int), stored.length = entryCount x.table ∧
          (∀ j, j < entryCount x.table → stored.getD j [] =
            match ((List.range es.length).filter fun i =>
              decide ((x.cursor + i) % entryCount x.table = j)).getLast? with
            | some i => es.getD i []
            | none => (p.table x.table).entries.getD j []) ∧
          Runs (.tableData (.form a)) ⟨p, l⟩
            (({ p with
              tables := p.tables.set x.table { p.table x.table with entries := stored }
              load := some ⟨x.table, (x.cursor + es.length) % entryCount x.table, .running 30⟩ }).reply 7 .ok
                (u8 ((x.cursor + es.length) % entryCount x.table)))

/-- TABLE CLOSE (R197): NOT_HELD without an open load of that table; a validated table VALID or INVALID by the tests
of its chapter (R3, R28, R108, R142) and unchanged, a clamped one VALID with every field in its range; the load
cleared; the working copies as the owning chapters lay down, the stale timers (R2), the moved roles (R142), the
auto-rearm decision (R163, R169), the demands (R48, R59, R69, R70), the speed request (R98), HEAT and the deferral test
(R107, R112, R115) and the poll times (R181) with them; the reply OK, or CLAMPED with the number of fields changed. The model's choices in it: log
entries 6, 7, 15, 22 and 37. -/
def Obligations.TableCloseJudges : Prop :=
  ∀ p l (b : Byte), p.serves →
    ((∀ x, p.load = some x → x.table.val ≠ b.toNat) →
      Runs (.tableClose (.form b)) ⟨p, l⟩ (p.refusedBy 8 .notHeld [])) ∧
    ∀ x, p.load = some x → x.table.val = b.toNat → p.resolutionsStand →
      let t := x.table
      let old := p.table t
      Gives (.tableClose (.form b)) ⟨p, l⟩ fun q =>
        let done := q.table t
        let n := entriesChanged old.entries done.entries
        (t.val ≤ 9 ∨ t.val = 11 ∨ t.val = 19 →
          done.entries = old.entries ∧ (done.state = .valid ∨ done.state = .invalid)) ∧
        (t.val ≤ 1 → (done.state = .valid ↔ mapRules (usedEntries old))) ∧
        (2 ≤ t.val ∧ t.val ≤ 9 → (done.state = .valid ↔ curveRules (old.entries.map knot))) ∧
        (t.val = 11 → (done.state = .valid ↔ driveRules (old.entries.map locationOf))) ∧
        (t.val = 19 → (done.state = .valid ↔ intervalRules (old.entries.map intervalEntry))) ∧
        (9 < t.val ∧ t.val ≠ 11 ∧ t.val ≠ 19 → done.state = .valid ∧
          ((∀ e, e ∈ old.entries → e.length = (tableForms t).length) →
            done.entries = old.entries.map (ruledEntry t.val))) ∧
        (∀ u, u ≠ t → q.table u = p.table u) ∧ q.load = none ∧
        (∃ att, q.holdsReply 8 (if n = 0 then .ok else .clamped) att
          (u8 t.val ++ u8 done.state.code ++ u16 n)) ∧
        q.pointSet = (if t.val = 10 then Vector.ofFn fun i => pointSetting (done.fields i.val)
          else p.pointSet) ∧
        (∀ i, (q.point i).stale = match (p.point i).stale with
          | .running k => .running (if t.val = 10 then min k q.pointSet[i].staleTime else k)
          | x => x) ∧
        q.driveMap = (if t.val = 11 ∧ done.state = .valid then
          some ⟨locationOf (done.fields 0), locationOf (done.fields 1), locationOf (done.fields 2),
            locationOf (done.fields 3), locationOf (done.fields 4), locationOf (done.fields 5),
            locationOf (done.fields 6)⟩ else p.driveMap) ∧
        (∀ r, (q.slot r).moved = true ↔ (p.slot r).moved = true ∨ t.val = 11 ∧ done.state = .valid ∧
          p.driveMap.map (fun m => m.get r) ≠ q.driveMap.map (fun m => m.get r)) ∧
        q.interlock = (if t.val = 12 then interlockSet (done.fields 0) else p.interlock) ∧
        q.tripSet = (if t.val = 13 then tripSetOf (done.fields 0) else p.tripSet) ∧
        (let decides := decide (t.val = 13 ∧ p.trip.state = .tripped ∧ p.trip.absence = .expired ∧
            q.tripSet.autoRearm = true ∧ p.trip.causes.hostTrip = false);
          q.trip = (if decides = false then p.trip
            else if p.trip.rearms < 2 then { p.trip with
              state := .normal
              first := none
              second := none
              causes := .empty
              silent := 0
              absence := .stopped
              rearms := p.trip.rearms + 1
              clean := if p.trip.rearms = 0 then .running 1800 else p.trip.clean
              last := some ⟨p.trip.first, p.trip.causes, p.trip.second, .auto⟩ }
            else { p.trip with state := .lockout, absence := .stopped }) ∧
          (decides = true → p.trip.rearms < 2 → (∀ r, (q.slot r).tripMark = false) ∧
            (p.path.state = .tripped → p.mode = .regulate → q.path.state.takes = true)) ∧
          (decides = true → 2 ≤ p.trip.rearms → q.hasFlag .lockout = true)) ∧
        (∀ c lo hi, t.val = 14 → done.fields (compCode c) = [lo, hi] →
          (q.comp c).spMin = lo ∧ (q.comp c).spMax = hi ∧
            (q.comp c).base = clampInt lo hi (p.comp c).base ∧ (q.comp c).effective = (q.comp c).ruled ∧
            ((q.comp c).demand, (q.comp c).urgent) = if p.active = true then demandRule (p.comp c) (q.comp c).effective
              else ((p.comp c).demand, (p.comp c).urgent)) ∧
        q.pathLimits = (if t.val = 15 then pathLimitsOf (done.fields 0) else p.pathLimits) ∧
        (∀ c, t.val = 16 → (p.comp c).demand = .calling ∨ (p.comp c).demand = .blindCall →
          (q.comp c).tuning = (p.comp c).tuning ∧
            (q.comp c).pending = some (tuningOf c (done.fields (compCode c))) ∧
            (q.comp c).demand = (p.comp c).demand ∧ (q.comp c).urgent = (p.comp c).urgent) ∧
        (∀ c, t.val = 16 → (p.comp c).demand ≠ .calling → (p.comp c).demand ≠ .blindCall →
          (q.comp c).tuning = tuningOf c (done.fields (compCode c)) ∧ (q.comp c).pending = none ∧
            (q.comp c).effective = (p.comp c).effective ∧
            ((q.comp c).demand, (q.comp c).urgent) = if p.active = true then
                demandRule { p.comp c with tuning := (q.comp c).tuning } (p.comp c).effective
              else ((p.comp c).demand, (p.comp c).urgent)) ∧
        (p.claimsAgree → q.claimsAgree) ∧
        q.pathTuning = (if t.val = 17 then pathTuningOf (done.fields 0) else p.pathTuning) ∧
        (t.val = 15 ∨ t.val = 17 →
          q.path.state = p.path.state ∧
          (p.path.state = .run → p.path.runStarted = true → p.path.satisfied = false →
            q.path.speed = if p.path.speed < q.pathLimits.sMin then q.pathLimits.sMin
              else if q.highest < p.path.speed then q.highest else p.path.speed) ∧
          (p.path.state = .run → p.path.runStarted = false ∨ p.path.satisfied = true →
            q.path.speed = q.pathLimits.sMin) ∧
          (p.path.state = .switch → q.path.speed = if p.path.speed = 0 then 0 else q.limited p.path.speed) ∧
          (p.path.state ≠ .run → p.path.state ≠ .switch → q.path.speed = p.path.speed) ∧
          (q.path.speed = p.path.speed ∨ q.path.speed = 0 → q.path.prevSpeed = p.path.prevSpeed) ∧
          (q.path.speed ≠ p.path.speed → q.path.speed ≠ 0 → q.path.prevSpeed = some q.path.speed)) ∧
        (t.val = 15 → p.defrost.phase = .heat → q.pathLimits.maxHeat ≤ p.defrost.heatTime →
          q.defrost.phase = .drip ∧ q.defrost.endCause = some .timedOut ∧ q.hasFlag .defrostLong = true) ∧
        (∀ v, t.val = 18 → p.defrost.phase = .heat → p.defrost.coil = some v →
          q.defrost.phase = (if q.defrostSet.terminate ≤ v then .drip else .heat) ∧
          (q.defrostSet.terminate ≤ v → q.defrost.endCause = some .terminated)) ∧
        (∀ since, t.val = 18 → p.defrost.phase = .due → p.defrost.dueSince = some since →
          (q.defrost.phase = .due ∨ q.defrost.phase = .prep) ∧
          (q.defrost.dfClaim = false ↔
            p.defrost.shedCopy = true ∧ (p.seconds - since).toNat < q.defrostSet.maxDeferral) ∧
          (p.claimsAgree → q.path.claims.df.raised = q.defrost.dfClaim)) ∧
        (let late := p.line.ms + q.pathTuning.pollPeriod
          let kept := if t.val = 17 then p.line.times.map fun y => (y.1, min y.2 late) else p.line.times
          q.line.times = kept ∨
            ∃ z, z ∈ kept ∧ q.line.txn = some ⟨⟨BitVec.ofNat 8 z.1, 1, kindPoll, []⟩, .poll⟩ ∧
              q.line.times = kept.map fun y => if y.1 = z.1 then (y.1, late) else y) ∧
        q.defrostSet = (if t.val = 18 then defrostSetOf (done.fields 0) else p.defrostSet) ∧
        q.intervals = (if t.val = 19 ∧ done.state = .valid then usedRows done else p.intervals) ∧
        q.doorSet = (if t.val = 20 then ⟨doorSetting (done.fields 0), doorSetting (done.fields 1),
          doorSetting (done.fields 2), doorSetting (done.fields 3)⟩ else p.doorSet) ∧
        (∀ c, (q.comp c).stack = (p.comp c).stack) ∧
        q.mode = p.mode ∧ q.activeMap = p.activeMap ∧ q.seconds = p.seconds ∧ q.mask = p.mask ∧
        q.lockLevel = p.lockLevel ∧ q.compStop = p.compStop ∧ q.heaterOff = p.heaterOff ∧
        (∀ r, (q.slot r).sent = (p.slot r).sent) ∧
        (∀ i, (q.point i).filtered = (p.point i).filtered ∧ (q.point i).state = (p.point i).state)

/-- A load fails (R198): on an accepted TABLE ABORT and at the expiry of the load timer the open table becomes INVALID
with the entries it holds, the load is cleared, and LOAD is raised for the table. The model's choices in it: log
entries 3, 14 and 22. -/
def Obligations.LoadFailures : Prop :=
  ∀ p l,
    (∀ b, p.serves → (∀ x, p.load = some x → x.table.val ≠ b.toNat) →
      Runs (.tableAbort (.form b)) ⟨p, l⟩ (p.refusedBy 9 .notHeld [])) ∧
    (∀ x, p.load = some x →
      let q : Part := { p with
        tables := p.tables.set x.table { p.table x.table with state := .invalid }
        load := none
        flags := p.flags ||| BitVec.twoPow 12 11
        details.load := p.details.load.set x.table true }
      (∀ b, p.serves → x.table.val = b.toNat →
        Runs (.tableAbort (.form b)) ⟨p, l⟩ (q.reply 9 .ok [])) ∧
      (x.timer = .running 0 → Runs .loadTimerExpiry ⟨p, l⟩ q) ∧
      (x.timer ≠ .running 0 → Runs .loadTimerExpiry ⟨p, l⟩ p)) ∧
    (p.load = none → Runs .loadTimerExpiry ⟨p, l⟩ p)

/-- TABLE READ (R199): RANGE for an id outside 0..20, a start index outside the table, or a number of 0 or more than
fit in 37 bytes less the id and the start index; else the stored entries from the start index on, wrapping, at any
lock level and whatever the table's state, and nothing changes. The model's choices in it: log entries 7, 22 and
40. -/
def Obligations.TableReadGivesStoredEntries : Prop :=
  ∀ p l (a : TableReadArgs), p.serves →
    (20 < a.table.toNat → Runs (.tableRead (.form a)) ⟨p, l⟩ (p.refusedBy 10 .range [])) ∧
    ∀ t : TableId, t.val = a.table.toNat →
      (entryCount t ≤ a.start.toNat ∨ a.count.toNat = 0 ∨ 37 - 2 < a.count.toNat * entrySize t →
        Runs (.tableRead (.form a)) ⟨p, l⟩ (p.refusedBy 10 .range [])) ∧
      (a.start.toNat < entryCount t → 0 < a.count.toNat → a.count.toNat * entrySize t ≤ 37 - 2 →
        Runs (.tableRead (.form a)) ⟨p, l⟩ (p.reply 10 .ok ([a.table, a.start] ++
          ((List.range a.count.toNat).map fun i => writeEntry (tableForms t)
            ((p.table t).entries.getD ((a.start.toNat + i) % entryCount t) [])).flatten)))

/-- SWAP MAP (R39, R40, R38): RANGE for no map; the active one has no effect; a LOADING map is refused with BUSY, an
INVALID one with INVALID; a VALID one becomes active and the poll list is rebuilt, a node of both lists keeping its
time and a new one due at once. Every reply gives the selector and the state of both maps. -/
def Obligations.SwapMapMovesTheSelector : Prop :=
  ∀ p l (b : Byte), p.serves →
    let other : MapSel := if b = 0 then .a else .b
    let states (m : MapSel) : List Byte := u8 m.code ++ u8 (p.table 0).state.code ++ u8 (p.table 1).state.code
    (1 < b.toNat → Runs (.swapMap (.form b)) ⟨p, l⟩ (p.refusedBy 11 .range (states p.activeMap))) ∧
    (b.toNat ≤ 1 →
      (other = p.activeMap → Runs (.swapMap (.form b)) ⟨p, l⟩ (p.reply 11 .ok (states p.activeMap))) ∧
      (other ≠ p.activeMap →
        ((p.table other.table).state = .loading →
          Runs (.swapMap (.form b)) ⟨p, l⟩ (p.refusedBy 11 .busy (states p.activeMap))) ∧
        ((p.table other.table).state = .invalid →
          Runs (.swapMap (.form b)) ⟨p, l⟩ (p.refusedBy 11 .invalid (states p.activeMap))) ∧
        ((p.table other.table).state = .valid →
          Runs (.swapMap (.form b)) ⟨p, l⟩ (({ p with
            activeMap := other
            line.times := (nodesOf (p.table other.table)).map fun n =>
              (n, (dueTime p.line.times n).getD p.line.ms) }).reply 11 .ok (states other)))))

/-! ## Compartments -/

/-- SET SETPOINT (R47, R59): RANGE for a number that is no compartment; else the value clamped into the limits is
stored as the base, the effective setpoint follows, and in REGULATE and SERVICE the demand is evaluated again; the
reply is CLAMPED when clamping changed the value. The model's choices in it: log entry 22. -/
def Obligations.SetSetpointStoresTheBase : Prop :=
  ∀ p l (a : SetpointArgs), p.serves →
    (compOf a.comp = none → Runs (.setSetpoint (.form a)) ⟨p, l⟩ (p.refusedBy 12 .range [])) ∧
    ∀ c, compOf a.comp = some c →
      let r := p.comp c
      let w := if a.value.toInt < r.spMin then r.spMin
        else if r.spMax < a.value.toInt then r.spMax else a.value.toInt
      let eff := CompRec.ruled { r with base := w }
      Gives (.setSetpoint (.form a)) ⟨p, l⟩ fun q =>
        (q.comp c).base = w ∧ (q.comp c).effective = eff ∧ (q.comp c).stack = r.stack ∧
        (q.comp c).air = r.air ∧ (q.comp c).spMin = r.spMin ∧ (q.comp c).spMax = r.spMax ∧
        ((q.comp c).demand, (q.comp c).urgent) =
          (if p.active = true then demandRule r eff else (r.demand, r.urgent)) ∧
        (∀ d, d ≠ c → q.comp d = p.comp d) ∧
        (∃ att, q.holdsReply 12 (if w = a.value.toInt then .ok else .clamped) att (i16 w ++ i16 eff)) ∧
        OnlyRaises [.warm, .drop] p q ∧ ReachesComps p q

/-- PUSH OVERRIDE (R50, R51): its checks in their order; an accepted push stands on top, LIVE, with its whole duration
remaining; a full stack is refused with FULL and raises STACK with (compartment, overflow). The model's choices in it:
log entries 7, 14 and 22. -/
def Obligations.PushOverridePlacesAnEntry : Prop :=
  ∀ p l (a : PushArgs), p.serves →
    (2 < a.comp.toNat ∨ 1 < a.kind.toNat ∨
        a.kind.toNat = 0 ∧ (a.value.toInt < -4000 ∨ 6000 < a.value.toInt) ∨
        a.kind.toNat = 1 ∧ (a.value.toInt < -1000 ∨ 1000 < a.value.toInt) →
      Runs (.pushOverride (.form a)) ⟨p, l⟩ (p.refusedBy 13 .range [])) ∧
    ∀ c k, compOf a.comp = some c → kindOf a.kind = some k →
      (k = .absolute → -4000 ≤ a.value.toInt ∧ a.value.toInt ≤ 6000) →
      (k = .offset → -1000 ≤ a.value.toInt ∧ a.value.toInt ≤ 1000) →
      (4 ≤ (p.comp c).stack.length →
        Runs (.pushOverride (.form a)) ⟨p, l⟩ (({ p with
          flags := p.flags ||| BitVec.twoPow 12 2
          details.overflow := p.details.overflow.set c true }).refusedBy 13 .full [])) ∧
      ((p.comp c).stack.length < 4 →
        let r := p.comp c
        let stack : List Override :=
          ⟨k, a.value.toInt, a.duration.toNat, a.duration.toNat, .controller, .live⟩ :: r.stack
        let eff := CompRec.ruled { r with stack := stack }
        Gives (.pushOverride (.form a)) ⟨p, l⟩ fun q =>
          (q.comp c).stack = stack ∧ (q.comp c).effective = eff ∧ (q.comp c).base = r.base ∧
          ((q.comp c).demand, (q.comp c).urgent) =
            (if p.active = true then demandRule r eff else (r.demand, r.urgent)) ∧
          (∀ d, d ≠ c → q.comp d = p.comp d) ∧
          (∃ att, q.holdsReply 13 .ok att (u8 (r.stack.length + 1) ++ i16 eff)) ∧
          OnlyRaises [.warm, .drop] p q ∧ ReachesComps p q)

/-- POP OVERRIDE and CLEAR OVERRIDES (R52, R54): an empty stack refuses the POP with EMPTY and raises STACK with
(compartment, underflow); a POP takes the top entry and the SPENT entries under it; a CLEAR empties the named stack or
all three, each emptied one with its demand evaluated again (R57, R59), and leaves a compartment whose stack is empty as
it is. The model's choices in it: log entries 7, 14, 22 and 27. -/
def Obligations.PopAndClearOverrides : Prop :=
  ∀ p l (b : Byte), p.serves →
    (2 < b.toNat → Runs (.popOverride (.form b)) ⟨p, l⟩ (p.refusedBy 14 .range [])) ∧
    (3 < b.toNat → Runs (.clearOverrides (.form b)) ⟨p, l⟩ (p.refusedBy 15 .range [])) ∧
    (∀ c, compOf b = some c →
      ((p.comp c).stack = [] →
        Runs (.popOverride (.form b)) ⟨p, l⟩ (({ p with
          flags := p.flags ||| BitVec.twoPow 12 2
          details.underflow := p.details.underflow.set c true }).refusedBy 14 .empty [])) ∧
      ∀ o spent rest, (p.comp c).stack = o :: (spent ++ rest) → (∀ x, x ∈ spent → x.tag = .spent) →
        (∀ x, rest.head? = some x → x.tag = .live) →
        let eff := CompRec.ruled { p.comp c with stack := rest }
        Gives (.popOverride (.form b)) ⟨p, l⟩ fun q =>
          (q.comp c).stack = rest ∧ (q.comp c).effective = eff ∧ (q.comp c).base = (p.comp c).base ∧
          ((q.comp c).demand, (q.comp c).urgent) =
            (if p.active = true then demandRule (p.comp c) eff else ((p.comp c).demand, (p.comp c).urgent)) ∧
          (∀ d, d ≠ c → q.comp d = p.comp d) ∧
          (∃ att, q.holdsReply 14 .ok att (u8 o.kind.code ++ i16 o.value ++ u8 o.origin.code ++
            u16 spent.length ++ u8 rest.length ++ i16 eff)) ∧
          OnlyRaises [.warm, .drop] p q ∧ ReachesComps p q) ∧
    (b.toNat ≤ 3 → p.compsSound → (∀ c, (p.comp c).effective = (p.comp c).ruled) →
      Gives (.clearOverrides (.form b)) ⟨p, l⟩ fun q =>
        (∀ c, b.toNat = 3 ∨ compOf b = some c →
          (q.comp c).stack = [] ∧ (q.comp c).effective = (p.comp c).base ∧
          (q.comp c).base = (p.comp c).base ∧
          ((p.comp c).stack = [] → q.comp c = p.comp c) ∧
          ((p.comp c).stack ≠ [] → ((q.comp c).demand, (q.comp c).urgent) =
            if p.active = true then demandRule (p.comp c) (p.comp c).base
            else ((p.comp c).demand, (p.comp c).urgent))) ∧
        (∀ c, b.toNat ≠ 3 → compOf b ≠ some c → q.comp c = p.comp c) ∧
        (∃ att, q.holdsReply 15 .ok att
          (if b.toNat = 3 then i16 p.comps.ff.base ++ i16 p.comps.cd.base ++ i16 p.comps.fz.base
            else ((compOf b).map fun c => i16 (p.comp c).base).getD [])) ∧
        OnlyRaises [.warm, .drop] p q ∧ ReachesComps p q)

/-- OVERRIDE_EXPIRY (R53): the entry whose time has run out becomes SPENT in its place; on top it goes with the SPENT
entries directly beneath it; the effective setpoint is recomputed. Slots are counted from the bottom. An entry
whose time has not run out does not expire (log entry 3). -/
def Obligations.OverrideExpirySpendsTheEntry : Prop :=
  ∀ p l c above (o : Override) below, (p.comp c).stack = above ++ o :: below →
    (o.tag = .live → o.duration ≠ 0 → o.remaining = 0 → ∀ spent rest, below = spent ++ rest →
      (∀ x, x ∈ spent → x.tag = .spent) → (∀ x, rest.head? = some x → x.tag = .live) →
      (∀ x, above.head? = some x → x.tag = .live) →
      let stack := if above = [] then rest else above ++ { o with tag := .spent } :: below
      let eff := CompRec.ruled { p.comp c with stack := stack }
      Gives (.overrideExpiry c below.length) ⟨p, l⟩ fun q =>
        (q.comp c).stack = stack ∧ (q.comp c).effective = eff ∧ (q.comp c).base = (p.comp c).base ∧
        ((q.comp c).demand, (q.comp c).urgent) =
          (if p.active = true then demandRule (p.comp c) eff else ((p.comp c).demand, (p.comp c).urgent)) ∧
        (∀ d, d ≠ c → q.comp d = p.comp d) ∧ OnlyRaises [.warm, .drop] p q ∧ ReachesComps p q) ∧
    (o.tag = .spent ∨ o.duration = 0 ∨ o.remaining ≠ 0 →
      Runs (.overrideExpiry c below.length) ⟨p, l⟩ p)

/-- The effective setpoint (R56): at reset and after every command it is the base, taken through the LIVE entries
from bottom to top and clamped into the limits; and it lies within them. -/
def Obligations.EffectiveSetpointFollowsTheStack : Prop :=
  (∀ c, (State.reset.part.comp c).effective = (State.reset.part.comp c).ruled) ∧
    (∀ s t, (∀ c, (s.part.comp c).spMin ≤ (s.part.comp c).base ∧ (s.part.comp c).base ≤ (s.part.comp c).spMax) →
      (∀ c, (s.part.comp c).effective = (s.part.comp c).ruled) → step s = .next t →
      ∀ c, (t.part.comp c).effective = (t.part.comp c).ruled) ∧
    ∀ r : CompRec, r.spMin ≤ r.spMax → r.spMin ≤ r.ruled ∧ r.ruled ≤ r.spMax

/-- BLIND_TIMER_EXPIRY and WARM_ALARM_EXPIRY (R61, R67, R69): a blind call ends in a rest of blind_off, with a
pending tuning applied first, a rest in a call of blind_on; the alarm whose count has reached the delay goes to
ALARMED and raises WARM. A timer or count that has not run out does not expire (log entry 3). An announcement of an air
point at the compartment (R58 to R60, R62, R63, R66, R68, R69): its value, LOST mark, demand, urgent mark, blind timer
and warm alarm, and the claims that follow it. A PAUSED alarm that a value returns past its delay raises WARM also where a
pending tuning is applied by the same announcement, since the alarm takes the value first (log entry 17). -/
def Obligations.BlindAndWarmExpiries : Prop :=
  (∀ p l c,
    ((p.comp c).blind = .running 0 → (p.comp c).demand = .blindCall → (p.comp c).pending = none →
      Gives (.blindTimerExpiry c) ⟨p, l⟩ fun q =>
        q.comp c = { p.comp c with
          demand := .blindRest
          urgent := false
          blind := .running (p.comp c).tuning.blindOff } ∧
        (∀ d, d ≠ c → q.comp d = p.comp d) ∧ OnlyRaises [.drop] p q ∧ ReachesComps p q) ∧
    (∀ t, (p.comp c).blind = .running 0 → (p.comp c).demand = .blindCall → (p.comp c).pending = some t →
      Gives (.blindTimerExpiry c) ⟨p, l⟩ fun q =>
        (q.comp c).demand = .blindRest ∧ (q.comp c).blind = .running t.blindOff ∧
        (q.comp c).tuning = t ∧ (q.comp c).pending = none ∧ (q.comp c).stack = (p.comp c).stack ∧
        (∀ d, d ≠ c → q.comp d = p.comp d) ∧ OnlyRaises [.warm, .drop] p q ∧ ReachesComps p q) ∧
    ((p.comp c).blind = .running 0 → (p.comp c).demand = .blindRest →
      Gives (.blindTimerExpiry c) ⟨p, l⟩ fun q =>
        q.comp c = { p.comp c with
          demand := .blindCall
          urgent := false
          blind := .running (p.comp c).tuning.blindOn } ∧
        (∀ d, d ≠ c → q.comp d = p.comp d) ∧ OnlyRaises [.drop] p q ∧ ReachesComps p q) ∧
    ((p.comp c).blind ≠ .running 0 → Runs (.blindTimerExpiry c) ⟨p, l⟩ p) ∧
    ((p.comp c).warm = .counting → (p.comp c).tuning.warmDelay ≤ (p.comp c).warmCount →
      Runs (.warmAlarmExpiry c) ⟨p, l⟩ { p with
        comps := p.comps.set c { p.comp c with warm := .alarmed }
        flags := p.flags ||| BitVec.twoPow 12 3
        details.warm := p.details.warm.set c true }) ∧
    ((p.comp c).warm ≠ .counting ∨ (p.comp c).warmCount < (p.comp c).tuning.warmDelay →
      Runs (.warmAlarmExpiry c) ⟨p, l⟩ p)) ∧
    ∀ (p : Part) c a lost,
      let r := p.comp c
      let q := p.announceAir c a lost
      let x := q.comp c
      let leaves := (r.demand = .calling ∨ r.demand = .blindCall) ∧ x.demand ≠ .calling ∧ x.demand ≠ .blindCall
      let now := r.demand = .idle ∨ r.demand = .calling ∨ r.demand = .waiting
      (∀ d, d ≠ c → q.comp d = p.comp d) ∧
      x.air = (match a with
        | .nothing => r.air
        | .value v => some v
        | .noValue => none) ∧
      x.lost = (match lost with
        | .same => r.lost
        | .begins => true
        | .ends => false) ∧
      x.stack = r.stack ∧ x.base = r.base ∧ x.effective = r.effective ∧
      (p.mode ≠ .regulate → p.mode ≠ .service → x = { r with air := x.air, lost := x.lost }) ∧
      (p.mode = .regulate ∨ p.mode = .service →
        (∀ v, a = .value v →
          (lost = .ends ∨ r.demand = .idle ∨ r.demand = .waiting →
            x.demand = if r.tuning.dIn ≤ v - r.effective then .calling else .idle) ∧
          (lost ≠ .ends → r.demand = .calling →
            x.demand = if v - r.effective ≤ -r.tuning.dOut then .idle else .calling) ∧
          (lost = .ends ∨ now → (x.urgent = true ↔ x.demand = .calling ∧ r.tuning.eUrg ≤ v - r.effective)) ∧
          (lost ≠ .ends → ¬now → x.demand = r.demand ∧ x.blind = r.blind) ∧
          (lost = .ends → x.blind = .stopped) ∧
          (r.pending = none →
            x.warm = (if v < r.tuning.warmTemp then .clear
              else if r.warm = .alarmed ∨ r.warm = .paused ∧ r.tuning.warmDelay ≤ r.warmCount then .alarmed
              else .counting) ∧
            x.warmCount = if v < r.tuning.warmTemp ∨ r.warm = .clear then 0 else r.warmCount) ∧
          (r.warm = .paused → r.tuning.warmTemp ≤ v → r.tuning.warmDelay ≤ r.warmCount →
            q.hasFlag .warm = true ∧ q.details.warm.get c = true)) ∧
        ((∀ v, a ≠ .value v) →
          (lost = .begins → x.demand = .blindCall ∧ x.urgent = false ∧ x.blind = .running r.tuning.blindOn) ∧
          (lost = .ends → x.demand = .waiting ∧ x.urgent = false ∧ x.blind = .stopped)) ∧
        (lost = .same → a = .noValue → now → x.demand = .waiting ∧ (r.demand ≠ .waiting → x.urgent = false)) ∧
        (a = .noValue → r.pending = none →
          x.warm = (if r.warm = .counting then .paused else r.warm) ∧ x.warmCount = r.warmCount) ∧
        ((leaves → x.tuning = r.pending.getD r.tuning ∧ x.pending = none) ∧
         (¬leaves → x.tuning = r.tuning ∧ x.pending = r.pending)) ∧
        (lost = .begins → q.hasFlag .blind = true ∧ q.details.blind.get c = true) ∧
        (x.warm = .alarmed → r.warm ≠ .alarmed → q.hasFlag .warm = true ∧ q.details.warm.get c = true) ∧
        OnlyRaises [.blind, .warm] p q ∧ (p.claimsAgree → q.claimsAgree))

/-! ## Points -/

/-- INJECT SAMPLE refused (R22): MODE outside REGULATE and SERVICE, RANGE, INVALID for a point that no used entry of
the active map targets, PROTECTED; and a count whose curve is not VALID is HELD and changes nothing (R4). The model's
choices in it: log entries 7 and 22. -/
def Obligations.InjectSampleRefusedOrHeld : Prop :=
  ∀ p l (a : InjectArgs), p.answers →
    (p.mode = .bypass → Runs (.injectSample (.form a)) ⟨p, l⟩ (p.refusedBy 16 .mode [])) ∧
    (p.active = true →
      (15 < a.point.toNat ∨ 4095 < a.count.toNat →
        Runs (.injectSample (.form a)) ⟨p, l⟩ (p.refusedBy 16 .range [])) ∧
      ∀ i : PointId, i.val = a.point.toNat → a.count.toNat ≤ 4095 →
        (p.entryFor i = none → Runs (.injectSample (.form a)) ⟨p, l⟩ (p.refusedBy 16 .invalid [])) ∧
        ∀ e, p.entryFor i = some e →
          (e.protect = true → Runs (.injectSample (.form a)) ⟨p, l⟩ (p.refusedBy 16 .protectedPoint [])) ∧
          (e.protect = false → i.val < 6 ∨ 9 < i.val → p.validCurve e.curve = none →
            Runs (.injectSample (.form a)) ⟨p, l⟩ (p.reply 16 .ok (u8 2 ++ u8 (p.point i).state.code ++
              i16 (p.point i).filtered ++ resolvedBytes (p.point i).resolved))))

/-- INJECT SAMPLE delivered (R23, R6, R8, R9, R10, R12): a door count decides the level; a count in span is converted,
trimmed, saturated and filtered, or seeds the filter; a count out of span takes the point to FAULTY, keeping its
filtered value and raising SENSOR on the change, and its stand-ins are asked for its value (R15, R17). The reply gives the
outcome, the state, the filtered value and the resolution after the sample. The other points keep their own records. The
model's choices in it: log entry 7. -/
def Obligations.InjectSampleDelivers : Prop :=
  ∀ p l (a : InjectArgs) (i : PointId) e, p.answers → p.active = true → i.val = a.point.toNat →
    a.count.toNat ≤ 4095 → p.entryFor i = some e → e.protect = false →
    (∀ f : Int, (6 ≤ i.val ∧ i.val ≤ 9 ∧ f = (if 2048 ≤ a.count.toNat then 1 else 0)) ∨
        ((i.val < 6 ∨ 9 < i.val) ∧ ∃ knots t, p.validCurve e.curve = some knots ∧
          convert knots a.count.toNat = some t ∧
          f = if (p.point i).state = .fresh then
              (p.point i).filtered + filterStep (clampInt (-4000) 6000 (t + e.trim) - (p.point i).filtered) e.shift
            else clampInt (-4000) 6000 (t + e.trim)) →
      Gives (.injectSample (.form a)) ⟨p, l⟩ fun q =>
        (q.point i).state = .fresh ∧ (q.point i).filtered = f ∧ (q.point i).lastRaw = some a.count.toNat ∧
        (q.point i).lastSecond = some p.seconds ∧
        (q.point i).stale = .running p.pointSet[i].staleTime ∧ (q.point i).resolved = some ⟨f, i, 0⟩ ∧
        (q.point i).lost = false ∧
        (∃ att, q.holdsReply 16 .ok att (u8 0 ++ u8 1 ++ i16 f ++ i16 f ++ u8 i.val ++ u8 0)) ∧
        (∀ j, j ≠ i → (q.point j).state = (p.point j).state ∧ (q.point j).filtered = (p.point j).filtered ∧
          (q.point j).lastRaw = (p.point j).lastRaw ∧ (q.point j).lastSecond = (p.point j).lastSecond ∧
          (q.point j).stale = (p.point j).stale) ∧
        OnlyRaises [.blind, .stack, .warm, .drop] p q ∧ ReachesPoints p q) ∧
    (∀ knots, i.val < 6 ∨ 9 < i.val → p.validCurve e.curve = some knots →
      convert knots a.count.toNat = none →
      Gives (.injectSample (.form a)) ⟨p, l⟩ fun q =>
        (q.point i).state = .faulty ∧ (q.point i).filtered = (p.point i).filtered ∧
        (q.point i).lastRaw = some a.count.toNat ∧ (q.point i).lastSecond = some p.seconds ∧
        (∃ att, q.holdsReply 16 .ok att (u8 1 ++ u8 3 ++ i16 (p.point i).filtered ++
          resolvedBytes (q.point i).resolved)) ∧
        ((p.point i).state ≠ .faulty → (q.point i).resolved = q.resolve i ∧
          (q.point i).lost = (decide (i.val ≤ 2) && (q.resolve i).isNone)) ∧
        ((p.point i).state = .faulty → (q.point i).resolved = (p.point i).resolved ∧
          (q.point i).lost = (p.point i).lost) ∧
        ((p.point i).state ≠ .faulty → (q.point i).stale = .stopped ∧ q.hasFlag .sensor = true ∧
          q.details.sensor = p.details.sensor.set i true) ∧
        ((p.point i).state = .faulty → q.flags ||| BitVec.twoPow 12 10 = p.flags ||| BitVec.twoPow 12 10 ∧
          q.comps = p.comps ∧ q.path = p.path ∧ q.doors = p.doors) ∧
        (∀ j, j ≠ i → (q.point j).state = (p.point j).state ∧ (q.point j).filtered = (p.point j).filtered ∧
          (q.point j).lastRaw = (p.point j).lastRaw ∧ (q.point j).lastSecond = (p.point j).lastSecond ∧
          (q.point j).stale = (p.point j).stale) ∧
        OnlyRaises [.sensor, .blind, .stack, .warm, .drop] p q ∧ ReachesPoints p q)

/-- STALE_TIMER_EXPIRY (R11, R25): in UNSEEN or FRESH the point goes to STALE with its value kept, and SENSOR is raised
when the active map targets it; a timer that has not run out does not expire (log entry 3). -/
def Obligations.StaleTimerExpiry : Prop :=
  ∀ p l (i : PointId),
    ((p.point i).stale = .running 0 → (p.point i).state = .unseen ∨ (p.point i).state = .fresh →
      Gives (.staleTimerExpiry i) ⟨p, l⟩ fun q =>
        (q.point i).state = .stale ∧ (q.point i).stale = .stopped ∧
        (q.point i).filtered = (p.point i).filtered ∧ (q.point i).lastRaw = (p.point i).lastRaw ∧
        (p.pointSet[i].fallback = none → (q.point i).resolved = none ∧
          (q.point i).lost = decide (i.val ≤ 2)) ∧
        (p.targeted i = true → q.hasFlag .sensor = true ∧
          q.details.sensor = p.details.sensor.set i true) ∧
        (p.targeted i = false → q.hasFlag .sensor = p.hasFlag .sensor ∧
          q.details.sensor = p.details.sensor) ∧
        (∀ j, j ≠ i → (q.point j).state = (p.point j).state ∧ (q.point j).filtered = (p.point j).filtered ∧
          (q.point j).stale = (p.point j).stale) ∧
        OnlyRaises [.sensor, .blind, .stack, .warm, .drop] p q ∧ ReachesPoints p q) ∧
    ((p.point i).stale ≠ .running 0 → Runs (.staleTimerExpiry i) ⟨p, l⟩ p)

/-- Conversion and filter (R6, R7, R8): with ascending counts a count in span, and only such, has a temperature, that
of its segment, which lies between the knots' temperatures; a filter step is the difference over 2 to the shift, rounded
to nearest with ties away from zero, or the difference's sign where that is 0: it moves towards the new value by at least
1 and never past it, and all the way with shift 0. A delivered sample of a temperature point out of span takes the point to
FAULTY, or leaves it there, with its filtered value unchanged; one in span is trimmed and saturated, and seeds the
filtered value or steps it, which stays within -4000..6000. -/
def Obligations.ConversionAndFilter : Prop :=
  (∀ (pre : List Knot) (a b : Knot) (post : List Knot) (c : Nat),
    ascending ((pre ++ a :: b :: post).map fun k => k.count) = true → a.count ≤ c → c ≤ b.count →
    (pre ≠ [] → a.count < c) →
    ∃ t, convert (pre ++ a :: b :: post) c = some t ∧
      t = a.temp + roundDiv ((b.temp - a.temp) * ((c : Int) - a.count)) ((b.count : Int) - a.count) ∧
      min a.temp b.temp ≤ t ∧ t ≤ max a.temp b.temp) ∧
    (∀ (a : Knot) (rest : List Knot) (c : Nat),
      c < a.count ∨ (a :: rest).getLast?.any (fun z => decide (z.count < c)) = true →
      convert (a :: rest) c = none) ∧
    (∀ (x y : Int), 0 < y → 2 * |x - y * roundDiv x y| ≤ y ∧
      (2 * |x - y * roundDiv x y| = y → |x| < |y * roundDiv x y|)) ∧
    (∀ (d : Int) (k : Nat), (0 < d → 1 ≤ filterStep d k ∧ filterStep d k ≤ d) ∧
      (d < 0 → filterStep d k ≤ -1 ∧ d ≤ filterStep d k) ∧ filterStep 0 k = 0 ∧ filterStep d 0 = d ∧
      (2 * |d| < 2 ^ k → filterStep d k = d.sign) ∧
      (2 ^ k ≤ 2 * |d| → filterStep d k = roundDiv d (2 ^ k))) ∧
    ∀ (p : Part) (d : Delivery) (knots : List Knot), p.mode ≠ .bypass → d.point.val < 6 ∨ 9 < d.point.val →
      p.validCurve d.curve = some knots →
      let x := p.point d.point
      let after := (p.deliver d).1.point d.point
      (convert knots d.count = none → (p.deliver d).2 = .outOfSpan ∧ after.state = .faulty ∧
        after.filtered = x.filtered) ∧
      ∀ t, convert knots d.count = some t →
        let trimmed := nearest (-4000) 6000 (t + d.trim)
        (p.deliver d).2 = .taken ∧ after.state = .fresh ∧
        after.filtered = (if x.state = .fresh then x.filtered + filterStep (trimmed - x.filtered) d.shift
          else trimmed) ∧
        (-4000 ≤ x.filtered → x.filtered ≤ 6000 → -4000 ≤ after.filtered ∧ after.filtered ≤ 6000)

/-! ## Doors -/

/-- A door transition (R129, R130, R131, R137, R55): an announced level that the record has changes nothing; an
opening starts the timers of the door's settings; a closing captures the width, and in REGULATE and SERVICE a
closing by the level, long enough, hands the recovery to the compartment's stack: a LIVE entry of the door's is refreshed
in its place, else an entry is pushed, and of either the effective setpoint is recomputed and the demand evaluated again; a
full stack raises STACK. -/
def Obligations.DoorTransitions : Prop :=
  ∀ (p : Part) (d : DoorId) (v : Int),
    ((p.door d).isOpen = false →
      p.announceDoor d .noValue = p ∧ (v ≠ 1 → p.announceDoor d (.value v) = p) ∧
      p.announceDoor d (.value 1) = p.setDoor d { p.door d with
        isOpen := true
        openSince := some p.seconds
        ajar := .running (p.doorSet.get d).ajarTime
        ajarMark := false
        fanStop := if (p.doorSet.get d).fanStopDelay = 0 then .stopped
          else .running (p.doorSet.get d).fanStopDelay
        stopActive := decide ((p.doorSet.get d).fanStopDelay = 0) }) ∧
    ((p.door d).isOpen = true → p.announceDoor d (.value 1) = p ∧
      ∀ t, (p.door d).openSince = some t →
        let w := min 65535 (p.seconds - t).toNat
        let c := doorComp d
        let r := p.comp c
        let shut (how : WidthLevel) : Part := p.setDoor d ⟨false, none, some w, some how, true,
          (p.door d).overcapture || (p.door d).unread, .stopped, false, .stopped, false⟩
        p.announceDoor d .noValue = shut .lost ∧
        (v ≠ 1 → p.active = false ∨ w < r.tuning.doorMin → p.announceDoor d (.value v) = shut .openLevel) ∧
        (v ≠ 1 → p.active = true → r.tuning.doorMin ≤ w →
          (p.announceDoor d (.value v)).door d = (shut .openLevel).door d ∧
          (r.stack.any Override.liveDoor = false → 4 ≤ r.stack.length →
            p.announceDoor d (.value v) = { (shut .openLevel) with
              flags := p.flags ||| BitVec.twoPow 12 2
              details.overflow := p.details.overflow.set c true }) ∧
          let stack : List Override :=
            if r.stack.any Override.liveDoor then r.stack.map fun o =>
              if o.origin = .door ∧ o.tag = .live then
                { o with duration := r.tuning.doorDuration, remaining := r.tuning.doorDuration }
              else o
            else ⟨.offset, r.tuning.doorOffset, r.tuning.doorDuration, r.tuning.doorDuration, .door, .live⟩ ::
              r.stack
          (r.stack.any Override.liveDoor = true ∨ r.stack.length < 4 →
            let q := p.announceDoor d (.value v)
            let eff := CompRec.ruled { r with stack := stack }
            (q.comp c).stack = stack ∧ (q.comp c).effective = eff ∧ (q.comp c).base = r.base ∧
            ((q.comp c).demand, (q.comp c).urgent) = demandRule r eff ∧
            (∀ k, k ≠ c → q.comp k = p.comp k) ∧
            OnlyRaises [.warm] (shut .openLevel) q ∧ ReachesComps (shut .openLevel) q)))

/-- DOOR READ (R132): the reply gives the captures of the four doors in order with the marks as they stood, and then every
unread and overcapture mark is clear. With every door closed it gives the whole list; with a door open the list is longer
than the 37 bytes of data that R188 gives a REPLY, and the reply gives fields of it, in their order, that keep to them. The
model's choices in it: log entry 7 for the layout of a door's bytes within R188, and log entry 11 for the reply with a
door open. -/
def Obligations.DoorReadReportsAndClears : Prop :=
  ∀ (p : Part) l, p.serves →
    let captures : List (List Byte) := ([DoorId.ffL, .ffR, .cd, .fz].map fun d =>
      let x := p.door d
      (if x.isOpen then [u8 0, optSecond x.openSince,
          u16 ((x.openSince.map fun t => min 65535 (p.seconds - t).toNat).getD 0)]
        else [u8 1]) ++
      [optU16 x.width, optU8 (x.widthLevel.map WidthLevel.code), markByte x.unread, markByte x.overcapture,
        markByte x.stopActive, markByte x.ajarMark]).flatten
    (captures.flatten.length ≤ 37 ↔ ∀ d, (p.door d).isOpen = false) ∧
    ∃ given : List (List Byte), given.Sublist captures ∧ given.flatten.length ≤ 37 ∧
      ((∀ d, (p.door d).isOpen = false) → given = captures) ∧
      Runs (.doorRead (.form ())) ⟨p, l⟩
        (({ p with
          doors := p.doors.mapWith fun _ (x : DoorRec) =>
            { x with unread := false, overcapture := false } }).reply 25 .ok given.flatten)

/-! ## The path -/

/-- SWITCH_COMPLETION (R83, R84, R86, R87, R91): with the holder's claim raised and no higher class at the head the path
goes to RUN at S_min, the run started at once when the compressor is running; with it withdrawn the holder releases;
a head of higher class displaces the holder. A switch timer that has not run out does not expire (log entry 3). -/
def Obligations.SwitchCompletes : Prop :=
  (∀ (p : Part) l k, p.path.state = .switch → p.path.switchTimer = .running 0 → p.path.holder = some k →
    ((p.path.claims.get k).raised = true →
      (∀ h, p.path.queue.head? = some h → (p.path.claims.get k).cls ≤ (p.path.claims.get h).cls) →
      (p.compSent = 0 → Runs .switchCompletion ⟨p, l⟩ { p with
        path.state := .run
        path.switchTimer := .stopped
        path.speed := p.pathLimits.sMin
        path.prevSpeed := if p.pathLimits.sMin = 0 then p.path.prevSpeed else some p.pathLimits.sMin }) ∧
      (p.compSent ≠ 0 → Runs .switchCompletion ⟨p, l⟩ { p with
        path.state := .run
        path.switchTimer := .stopped
        path.runStarted := true
        path.minHold := .running p.pathTuning.minHold
        path.maxHold := .running p.pathTuning.maxHold
        path.divider := 0
        path.speed := p.pathLimits.sMin
        path.prevSpeed := if p.pathLimits.sMin = 0 then p.path.prevSpeed else some p.pathLimits.sMin
        offCycle := if k = .ff then .stopped else p.offCycle })) ∧
    ((p.path.claims.get k).raised = false → p.path.queue = [] → Runs .switchCompletion ⟨p, l⟩ { p with
      path.state := .off
      path.holder := none
      path.runStarted := false
      path.satisfied := false
      path.switchTimer := .stopped
      path.minHold := .stopped
      path.maxHold := .stopped
      path.speed := 0 }) ∧
    (∀ h rest, p.path.queue = h :: rest → h ≠ .df → (p.path.claims.get k).raised = false ∨
        (p.path.claims.get h).cls < (p.path.claims.get k).cls →
      Gives .switchCompletion ⟨p, l⟩ fun q =>
        q.path.holder = some h ∧ (q.path.state = .run ∨ q.path.state = .switch) ∧
        (q.path.state = .run ↔ p.path.valve = h.valve) ∧ q.path.valve = h.valve ∧
        ((p.path.claims.get k).raised = false → q.path.queue = rest) ∧
        ((p.path.claims.get k).raised = true → q.path.queue.Perm (k :: rest)) ∧
        q.path.claims = p.path.claims ∧ ReachesPath p q) ∧
    (∀ rest, p.path.queue = .df :: rest → (p.path.claims.get k).raised = false ∨
        p.path.claims.df.cls < (p.path.claims.get k).cls →
      Gives .switchCompletion ⟨p, l⟩ fun q =>
        q.path.holder = some .df ∧ q.path.state = .defrost ∧ q.path.speed = 0 ∧
        q.path.valve = p.path.valve ∧ (p.defrost.phase = .due → p.defrost.dfClaim = true →
          q.defrost = { p.defrost with
            phase := .prep
            heatTime := 0
            budget := p.pathLimits.holdBudget
            budgetLoaded := p.pathLimits.holdBudget
            heater := true }) ∧ ReachesPath p q)) ∧
    ∀ (p : Part) l, p.path.state ≠ .switch ∨ p.path.switchTimer ≠ .running 0 → Runs .switchCompletion ⟨p, l⟩ p

/-- The hold timers' expiries (R88, R89, R90, R91): at minimum-hold expiry a satisfied holder and one for which a claim
of class 0 or 1 waits give the path up, another keeps it with the timer expired; at maximum-hold expiry the holder
gives way to a waiting claim of its class or a higher one. The head of the queue is granted, and a holder whose claim
is still raised rejoins the queue with new keys. FF leaving a started run begins the FF off-cycle (R147), which ends at
once when FF_COIL stands at 1.00 °C or above. A timer that has not run out does not expire (log entry 3); FF_COIL is
read as it resolves now (log entry 18). -/
def Obligations.HoldTimersExpire : Prop :=
  ∀ (p : Part) l k, p.path.state = .run → p.path.runStarted = true → p.path.holder = some k → k ≠ .df →
    p.keysSound →
    let first (n : Nat) : Bool := p.path.queue.head?.any fun h => decide ((p.path.claims.get h).cls ≤ n)
    let left (q : Part) : Prop :=
      (q.path.holder = p.path.queue.head? ∨ p.path.queue = [] ∧ (p.path.claims.get k).raised = true) ∧
      (p.path.queue = [] → (p.path.claims.get k).raised = false → q.path.state = .off ∧ q.path.speed = 0 ∧
        q.path.valve = p.path.valve) ∧
      (∀ h rest, p.path.queue = h :: rest →
        ((p.path.claims.get k).raised = true → k ∈ q.path.queue ∧ q.path.queue.Perm (k :: rest) ∧
          (h ≠ k → (q.path.claims.get k).arrival = p.path.nextKey ∧
            (q.path.claims.get k).urgentSince = p.path.nextKey)) ∧
        ((p.path.claims.get k).raised = false → q.path.queue = rest)) ∧
      (q.path.holder ≠ some .ff → q.offCycle =
        if k ≠ .ff then p.offCycle
        else if ((p.point 3).resolved.any fun x => decide (100 ≤ x.value)) = true then .stopped
        else .running 600) ∧
      (q.path.holder = some .ff → q.path.runStarted = true → q.offCycle = .stopped) ∧
      q.path.satisfied = false ∧ ReachesPath p q
    (p.path.minHold = .running 0 →
      (p.path.satisfied = false → first 1 = false →
        (p.path.maxHold = .expired →
          ∀ h, p.path.queue.head? = some h → (p.path.claims.get k).cls < (p.path.claims.get h).cls) →
        Runs .minimumHoldExpiry ⟨p, l⟩ { p with path.minHold := .expired }) ∧
      (p.path.satisfied = true ∨ first 1 = true → (∀ h, p.path.queue.head? = some h →
        (p.path.claims.get k).raised = true → (p.path.claims.get h).cls ≤ (p.path.claims.get k).cls) →
        Gives .minimumHoldExpiry ⟨p, l⟩ left)) ∧
    (p.path.minHold ≠ .running 0 → Runs .minimumHoldExpiry ⟨p, l⟩ p) ∧
    (p.path.maxHold = .running 0 → p.path.minHold ≠ .expired ∨ first 1 = false →
      (first (p.path.claims.get k).cls = false →
        Runs .maximumHoldExpiry ⟨p, l⟩ { p with path.maxHold := .expired }) ∧
      (first (p.path.claims.get k).cls = true → Gives .maximumHoldExpiry ⟨p, l⟩ left)) ∧
    (p.path.maxHold ≠ .running 0 → Runs .maximumHoldExpiry ⟨p, l⟩ p)

/-- LOAD SHED (R97): RANGE for no BEGIN and no END; the mark as it stands is answered and changes nothing; a change
sets the mark, lowers a started run's request above the ceiling to the ceiling at once, and makes the deferral test of
R112 in DUE, whose DF claim meets the arbiter as in `Obligations.DefrostFallsDue`: granted, it places the speed 0. The reply gives the mark and the ceiling in force. The model's choices in it: log entry 22. -/
def Obligations.LoadShedSetsTheMark : Prop :=
  ∀ (p : Part) l (b : Byte), p.serves →
    let on := decide (b = 0)
    let top := if on then clampNat p.pathLimits.sMin p.pathLimits.sMax p.pathTuning.shedCeiling
      else p.pathLimits.sMax
    let lower := decide (p.path.state = .run ∧ p.path.runStarted = true ∧ on = true ∧ top < p.path.speed)
    let held : Prop := on = true ∧ ∃ t, p.defrost.dueSince = some t ∧
      (p.seconds - t).toNat < p.defrostSet.maxDeferral
    (1 < b.toNat → Runs (.loadShed (.form b)) ⟨p, l⟩ (p.refusedBy 20 .range [])) ∧
    (b.toNat ≤ 1 →
      (p.path.shed = on →
        Runs (.loadShed (.form b)) ⟨p, l⟩ (p.reply 20 .ok (markByte on ++ u16 top))) ∧
      (p.path.shed ≠ on → p.defrost.phase ≠ .due → 0 < p.pathLimits.sMin →
        p.pathLimits.sMin ≤ p.pathLimits.sMax →
        Runs (.loadShed (.form b)) ⟨p, l⟩ (({ p with
          path.shed := on
          path.speed := if lower then top else p.path.speed
          path.prevSpeed := if lower then some top else p.path.prevSpeed
          defrost.shedCopy := on }).reply 20 .ok (markByte on ++ u16 top))) ∧
      (p.path.shed ≠ on → p.defrost.phase = .due →
        Gives (.loadShed (.form b)) ⟨p, l⟩ fun q =>
          q.path.shed = on ∧ q.defrost.shedCopy = on ∧
          (q.defrost.phase = .due ∨ q.defrost.phase = .prep ∧ q.path.state = .defrost) ∧
          (q.defrost.dfClaim = false ↔ held) ∧
          (p.pathLaw → p.classesSound →
            (p.defrost.dfClaim = false → ¬held → p.meetsDF q) ∧
            q.path.speed = (if q.path.state = .defrost then 0 else if lower then top else p.path.speed) ∧
            (0 < p.pathLimits.sMin → p.pathLimits.sMin ≤ p.pathLimits.sMax →
              q.path.prevSpeed = if lower then some top else p.path.prevSpeed)) ∧
          (∃ att, q.holdsReply 20 .ok att (markByte on ++ u16 top)) ∧ ReachesPath p q))

/-! ## Defrost -/

/-- A defrost falls due (R110, R111, R112): DEFROST_DUE in IDLE with the accumulation at or above the interval,
DEFROST START in IDLE, and the shed deferral run out. The DF claim is held back while the shed copy is set and the
maximum deferral has not passed. Raised, it reaches the arbiter (R79, R81, R86, R89, R90): it is granted at once in OFF,
over a holder whose run has not started and over one whose minimum or maximum hold has expired; else it stands at the
head of the queue, and where no claims are taken it is kept in its record. In DUE a DEFROST START changes nothing; in
the other phases it is refused with BUSY. That DEFROST_DUE with the accumulation below the interval, and
SHED_DEFERRAL_RUN_OUT before the deferral has passed, have no effect is the model's choice (log entry 3), and so is the
empty data of a refusal (log entry 22). -/
def Obligations.DefrostFallsDue : Prop :=
  ∀ (p : Part) l,
    let lawful := p.pathLaw ∧ p.classesSound
    let held := p.defrost.shedCopy = true ∧ 0 < p.defrostSet.maxDeferral
    let due (q : Part) : Prop :=
      q.defrost.dueSince = some p.seconds ∧ q.defrost.accumulation = p.defrost.accumulation ∧
      q.defrost.interval = p.defrost.interval ∧ (q.defrost.dfClaim = false ↔ held) ∧
      (held → q.defrost.phase = .due ∧ q.path = p.path) ∧ (¬held → lawful → p.meetsDF q) ∧
      (q.defrost.phase = .due ∨ q.defrost.phase = .prep) ∧ ReachesPath p q
    (p.defrost.phase = .idle → p.defrost.dfClaim = false →
      (p.defrost.interval ≤ p.defrost.accumulation → Gives .defrostDue ⟨p, l⟩ due) ∧
      (p.serves → Gives (.defrostStart (.form ())) ⟨p, l⟩ fun q => due q ∧
        ∃ att, q.holdsReply 17 .ok att (u8 q.defrost.phase.code ++ u32 p.defrost.accumulation ++
          u32 p.defrost.interval ++ claimByte q.defrost.dfClaim))) ∧
    (p.defrost.phase ≠ .idle ∨ p.defrost.accumulation < p.defrost.interval → Runs .defrostDue ⟨p, l⟩ p) ∧
    (p.serves → p.defrost.phase = .due →
      Runs (.defrostStart (.form ())) ⟨p, l⟩ (p.reply 17 .ok (u8 1 ++ u32 p.defrost.accumulation ++
        u32 p.defrost.interval ++ claimByte p.defrost.dfClaim))) ∧
    (p.serves → p.defrost.phase ≠ .idle → p.defrost.phase ≠ .due →
      Runs (.defrostStart (.form ())) ⟨p, l⟩ (p.refusedBy 17 .busy [])) ∧
    (∀ t, p.defrost.dueSince = some t → p.defrost.phase = .due → p.defrost.shedCopy = true →
      (p.defrostSet.maxDeferral ≤ (p.seconds - t).toNat → p.defrost.dfClaim = false →
        Gives .shedDeferralRunOut ⟨p, l⟩ fun q => q.defrost.dfClaim = true ∧ (lawful → p.meetsDF q) ∧
          (q.defrost.phase = .due → q.defrost = { p.defrost with dfClaim := true }) ∧ ReachesPath p q) ∧
      ((p.seconds - t).toNat < p.defrostSet.maxDeferral → Runs .shedDeferralRunOut ⟨p, l⟩ p))

/-- DEFROST HOLD and DEFROST RESUME (R116, R118): NOT_HELD out of phase, BUDGET without one; a hold turns the heater
request off in HOLD and freezes the heat time, below the max heat time also where HEAT_TIMEOUT waits; a resume turns it on
in HEAT and tests the coil and then the heat time at once, and a resume taken while the exhaustion of the budget waits
keeps its last second. The model's choices in it: log entry 22; that the timeout and the exhaustion wait as commands of
their own is log entry 3, and that the attention of a reply shows a flag raised by its own request log entry 14. -/
def Obligations.DefrostHoldAndResume : Prop :=
  ∀ (p : Part) l, p.serves →
    (p.defrost.phase ≠ .heat → Runs (.defrostHold (.form ())) ⟨p, l⟩ (p.refusedBy 18 .notHeld [])) ∧
    (p.defrost.phase = .heat → p.defrost.budget = 0 →
      Runs (.defrostHold (.form ())) ⟨p, l⟩ (p.refusedBy 18 .budget [])) ∧
    (p.defrost.phase = .heat → p.defrost.budget ≠ 0 →
      let frozen := if p.defrost.heatTime < p.pathLimits.maxHeat then p.defrost.heatTime
        else p.pathLimits.maxHeat - 1
      Runs (.defrostHold (.form ())) ⟨p, l⟩
        (({ p with defrost.phase := .hold, defrost.heater := false, defrost.heatTime := frozen }).reply 18 .ok
          (u16 frozen ++ u16 p.defrost.budget))) ∧
    (p.defrost.phase ≠ .hold → Runs (.defrostResume (.form ())) ⟨p, l⟩ (p.refusedBy 19 .notHeld [])) ∧
    (p.defrost.phase = .hold →
      let left := if p.defrost.budget = 0 then 1 else p.defrost.budget
      let ended (cause : EndCause) : Part := { p with
        defrost.phase := .drip
        defrost.heater := false
        defrost.budget := left
        defrost.endCause := some cause
        defrost.drip := .running p.interlock.tDrip }
      ((∀ t, p.defrost.coil = some t → t < p.defrostSet.terminate) →
        (p.defrost.heatTime < p.pathLimits.maxHeat →
          Runs (.defrostResume (.form ())) ⟨p, l⟩
            (({ p with defrost.phase := .heat, defrost.heater := true, defrost.budget := left }).reply 19 .ok
              (u8 3 ++ u16 p.defrost.heatTime ++ u16 left))) ∧
        (p.pathLimits.maxHeat ≤ p.defrost.heatTime →
          Runs (.defrostResume (.form ())) ⟨p, l⟩
            (({ ended .timedOut with
              flags := p.flags ||| BitVec.twoPow 12 4
              details.defrostLong := min 255 (p.details.defrostLong + 1) }).reply 19 .ok
              (u8 5 ++ u16 p.defrost.heatTime ++ u16 left)))) ∧
      (∀ t, p.defrost.coil = some t → p.defrostSet.terminate ≤ t →
        Runs (.defrostResume (.form ())) ⟨p, l⟩
          ((ended .terminated).reply 19 .ok (u8 5 ++ u16 p.defrost.heatTime ++ u16 left))))

/-- HEAT_TIMEOUT and BUDGET_EXHAUSTION (R115, R117, R118, R124): at the max heat time HEAT ends in DRIP as TIMED_OUT and
raises DEFROST_LONG; with the budget spent heating resumes, and the same two tests are made. Out of phase, or with
the limit not reached, neither acts (log entry 3). An announcement of the coil (R106, R115): a new value at or above the
terminate temperature ends HEAT in DRIP as TERMINATED, with a heat time below the max heat time also where HEAT_TIMEOUT
waits; a lower one, and any in the other phases but RECOVER, is stored, and no value leaves none. -/
def Obligations.HeatAndHoldEnd : Prop :=
  ∀ (p : Part) l,
    let timedOut : Part := { p with
      defrost.phase := .drip
      defrost.heater := false
      defrost.endCause := some .timedOut
      defrost.drip := .running p.interlock.tDrip
      flags := p.flags ||| BitVec.twoPow 12 4
      details.defrostLong := min 255 (p.details.defrostLong + 1) }
    (p.defrost.phase = .heat → p.pathLimits.maxHeat ≤ p.defrost.heatTime → Runs .heatTimeout ⟨p, l⟩ timedOut) ∧
    (p.defrost.phase ≠ .heat ∨ p.defrost.heatTime < p.pathLimits.maxHeat → Runs .heatTimeout ⟨p, l⟩ p) ∧
    (p.defrost.phase = .hold → p.defrost.budget = 0 →
      (∀ t, p.defrost.coil = some t → p.defrostSet.terminate ≤ t →
        Runs .budgetExhaustion ⟨p, l⟩ { p with
          defrost.phase := .drip
          defrost.heater := false
          defrost.endCause := some .terminated
          defrost.drip := .running p.interlock.tDrip }) ∧
      ((∀ t, p.defrost.coil = some t → t < p.defrostSet.terminate) →
        (p.pathLimits.maxHeat ≤ p.defrost.heatTime → Runs .budgetExhaustion ⟨p, l⟩ timedOut) ∧
        (p.defrost.heatTime < p.pathLimits.maxHeat → Runs .budgetExhaustion ⟨p, l⟩ { p with
          defrost.phase := .heat
          defrost.heater := true }))) ∧
    (p.defrost.phase ≠ .hold ∨ p.defrost.budget ≠ 0 → Runs .budgetExhaustion ⟨p, l⟩ p) ∧
    p.announceCoil .noValue = { p with defrost.coil := none } ∧
    ∀ t : Int,
      (p.defrost.phase = .heat → p.defrostSet.terminate ≤ t → p.announceCoil (.value t) = { p with
        defrost.coil := some t
        defrost.phase := .drip
        defrost.heater := false
        defrost.heatTime := if p.defrost.heatTime < p.pathLimits.maxHeat then p.defrost.heatTime
          else p.pathLimits.maxHeat - 1
        defrost.endCause := some .terminated
        defrost.drip := .running p.interlock.tDrip }) ∧
      (p.defrost.phase = .heat → t < p.defrostSet.terminate →
        p.announceCoil (.value t) = { p with defrost.coil := some t }) ∧
      (p.defrost.phase ≠ .heat → p.defrost.phase ≠ .recover →
        p.announceCoil (.value t) = { p with defrost.coil := some t })

/-- DRIP_TIMER_EXPIRY and RECOVER_TIMER_EXPIRY (R120, R121, R92): the end of a drip chooses the interval, empties the
accumulation, writes the last-defrost record, and hands the path from DF to the head of the queue, which is an FF that
waits urgent before FZ, and else FZ, raised to class 1 by the recover claim wherever it stood; the end of RECOVER
leaves IDLE, or DUE when the accumulation has reached the interval, by the timer or by a new coil value at or below the
recover fan temperature. Not run out, neither timer acts (log entry 3). The model's choices in it: log entries 3, 10, 24
(a grant at the drip's end with the valve at the other position goes through SWITCH) and 34. -/
def Obligations.DripAndRecoverEnd : Prop :=
  ∀ (p : Part) l,
    let recovered (d : DefrostRec) (q : Part) : Prop :=
      q.defrost.recover = .stopped ∧ q.defrost.recoverClaim = false ∧ q.path.recover = false ∧
      q.defrost.accumulation = d.accumulation ∧ q.defrost.interval = d.interval ∧
      (d.accumulation < d.interval → q.defrost = { d with
        recover := .stopped
        recoverClaim := false
        phase := .idle }) ∧
      (d.interval ≤ d.accumulation →
        q.defrost.dueSince = some p.seconds ∧ (q.defrost.phase = .due ∨ q.defrost.phase = .prep) ∧
        (q.defrost.dfClaim = false ↔ d.shedCopy = true ∧ 0 < p.defrostSet.maxDeferral)) ∧
      q.path.claims.fz.raised = q.path.fzRaised ∧ q.path.fzRaised = p.path.fzRaised ∧
      (p.path.claims.df.raised = false → q.path.claims.df.raised = q.defrost.dfClaim) ∧ ReachesPath p q
    (p.defrost.phase = .drip → p.defrost.drip = .running 0 →
      let past (r : IntervalRow) : Bool := decide (p.defrost.heatTime ≤ r.heatLimit)
      let next := match p.intervals.getLast? with
        | none => p.defrostSet.firstInterval
        | some z =>
          if p.defrost.endCause = some .timedOut then z.interval
          else ((p.intervals.find? past).getD z).interval
      Gives .dripTimerExpiry ⟨p, l⟩ fun q =>
        q.defrost = { p.defrost with
          interval := next
          accumulation := 0
          dueSince := none
          last := some ⟨p.defrost.heatTime, p.defrost.budgetLoaded - p.defrost.budget,
            p.defrost.endCause.getD .terminated, some next, p.seconds⟩
          phase := .recover
          drip := .stopped
          recover := .running p.defrostSet.recoverTime
          dfClaim := false
          recoverClaim := true } ∧
        q.path.claims.df.raised = false ∧ q.path.claims.fz.raised = true ∧ q.path.claims.fz.cls = 1 ∧
        (p.path.state = .defrost → p.path.holder = some .df → p.path.claims.df.raised = true →
          p.path.claims.df.cls = 0 → p.path.claims.fz.raised = false →
          (∀ k, k ∈ p.path.queue → k = .ff ∧ p.path.claims.ff.cls = 2) →
          q.path.holder = some .fz ∧ (q.path.state = .run ∨ q.path.state = .switch)) ∧
        (p.path.state = .defrost → p.pathLaw → p.classesSound →
          let next : Claimant := if p.path.queue.head? = some .ff ∧ p.path.claims.ff.cls = 1 then .ff else .fz
          q.path.holder = some next ∧ q.path.valve = next.valve ∧
          q.path.queue = (if next = .ff then [.fz] else if p.path.claims.ff.raised = true then [.ff] else []) ∧
          if p.path.valve = next.valve then q.path.state = .run ∧ q.path.speed = p.pathLimits.sMin ∧
              (q.path.runStarted = true ↔ p.compSent ≠ 0)
            else q.path.state = .switch ∧ q.path.switchTimer = .running p.pathTuning.changeTime) ∧
        ReachesPath p q) ∧
    (p.defrost.phase ≠ .drip ∨ p.defrost.drip ≠ .running 0 → Runs .dripTimerExpiry ⟨p, l⟩ p) ∧
    (p.defrost.phase = .recover → p.defrost.dfClaim = false →
        (p.defrost.recover = .running 0 →
          Gives .recoverTimerExpiry ⟨p, l⟩ (recovered p.defrost)) ∧
        ∀ t : Int,
          (p.defrostSet.recoverFan < t → p.announceCoil (.value t) = { p with defrost.coil := some t }) ∧
          (t ≤ p.defrostSet.recoverFan →
            recovered { p.defrost with coil := some t } (p.announceCoil (.value t)))) ∧
    (p.defrost.phase ≠ .recover ∨ p.defrost.recover ≠ .running 0 → Runs .recoverTimerExpiry ⟨p, l⟩ p)

/-! ## Outputs -/

/-- The timers of doors and outputs (R134, R135, R138, R144, R147, R159): each acts when it has run out, where it runs,
and only then (log entry 3). -/
def Obligations.OutputTimersExpire : Prop :=
  ∀ (p : Part) l (d : DoorId) (r : Role),
    (p.polls = true → (p.door d).fanStop = .running 0 → Runs (.fanStopTimerExpiry d) ⟨p, l⟩
      (p.setDoor d { p.door d with fanStop := .stopped, stopActive := true })) ∧
    (p.polls = false ∨ (p.door d).fanStop ≠ .running 0 → Runs (.fanStopTimerExpiry d) ⟨p, l⟩ p) ∧
    (p.polls = true → (p.door d).ajar = .running 0 → Runs (.ajarTimerExpiry d) ⟨p, l⟩
      { p.setDoor d { p.door d with ajar := .stopped, ajarMark := true } with
        flags := p.flags ||| BitVec.twoPow 12 5
        details.ajar := p.details.ajar.set d true }) ∧
    (p.polls = false ∨ (p.door d).ajar ≠ .running 0 → Runs (.ajarTimerExpiry d) ⟨p, l⟩ p) ∧
    (p.mode ≠ .bypass → p.driveMap ≠ none → (p.slot r).refresh = .running 0 →
      Runs (.refreshTimerExpiry r) ⟨p, l⟩ (p.setSlot r { p.slot r with due := true, refresh := .stopped })) ∧
    (p.mode = .bypass ∨ p.driveMap = none ∨ (p.slot r).refresh ≠ .running 0 →
      Runs (.refreshTimerExpiry r) ⟨p, l⟩ p) ∧
    (p.offCycle = .running 0 → Runs .offCycleTimerExpiry ⟨p, l⟩ { p with offCycle := .stopped }) ∧
    (p.offCycle ≠ .running 0 → Runs .offCycleTimerExpiry ⟨p, l⟩ p) ∧
    (p.damper = .deviating → p.deviation = .running 0 → Runs .deviationTimerExpiry ⟨p, l⟩ { p with
      damper := .flagged
      deviation := .stopped
      flags := p.flags ||| BitVec.twoPow 12 9 }) ∧
    (p.damper ≠ .deviating ∨ p.deviation ≠ .running 0 → Runs .deviationTimerExpiry ⟨p, l⟩ p)

/-- The screening of COMP, HEATER and VALVE (R152, R153, R154), and its place (R151, R144): the other roles' values
pass; after every event's screening a slot's outgoing value is its request as the interlock lets it out, and its
changed mark says whether that differs from the value sent or the location has moved. That VALVE is tested against the
valve-change speed of the PATH_TUNING in force is the model's reading of R143 beside R76 (log entry 42). -/
def Obligations.InterlockScreens : Prop :=
  ∀ (p : Part) (v : Nat),
    let stopped := p.slots.comp.sent.getD 0 = 0
    let cold := p.slots.heater.sent.getD 0 = 0
    let clamped := if v < p.pathLimits.sMin then p.pathLimits.sMin
      else if p.pathLimits.sMax < v then p.pathLimits.sMax else v
    p.screen .comp 0 = some 0 ∧ p.screen .heater 0 = some 0 ∧
    (p.pathLimits.sMin ≤ p.pathLimits.sMax → v ≠ 0 →
      (cold → ¬stopped ∨ (∃ t u, p.compStop = some t ∧ p.heaterOff = some u ∧
          p.pathLimits.restartInhibit ≤ (p.seconds - t).toNat ∧ p.interlock.tDrip ≤ (p.seconds - u).toNat) →
        p.screen .comp v = some clamped) ∧
      (¬cold ∨ stopped ∧ (∀ t u, p.compStop = some t → p.heaterOff = some u →
          (p.seconds - t).toNat < p.pathLimits.restartInhibit ∨ (p.seconds - u).toNat < p.interlock.tDrip) →
        p.screen .comp v = some 0)) ∧
    (v ≠ 0 →
      (stopped → (∃ t, p.compStop = some t ∧ p.interlock.tPre ≤ (p.seconds - t).toNat) →
        p.screen .heater v = some v) ∧
      (¬stopped ∨ (∀ t, p.compStop = some t → (p.seconds - t).toNat < p.interlock.tPre) →
        p.screen .heater v = some 0)) ∧
    (p.slots.valve.sent = some v ∨ stopped ∨ p.slots.comp.sent = some
        (clampNat p.pathLimits.sMin p.pathLimits.sMax p.pathTuning.changeSpeed) →
      p.screen .valve v = some v) ∧
    (p.slots.valve.sent ≠ some v → ¬stopped → p.slots.comp.sent ≠ some
        (clampNat p.pathLimits.sMin p.pathLimits.sMax p.pathTuning.changeSpeed) →
      p.screen .valve v = p.slots.valve.sent) ∧
    (∀ r, r ≠ .comp → r ≠ .heater → r ≠ .valve → p.screen r v = some v) ∧
    ∀ r, (p.screenAll.slot r).outgoing = p.screen r (p.slot r).requested ∧
      ((p.screenAll.slot r).changed = true ↔ ∃ w, (p.screenAll.slot r).outgoing = some w ∧
        ((p.slot r).moved = true ∨ (p.slot r).sent ≠ some w)) ∧
      (p.screenAll.slot r).requested = (p.slot r).requested

/-- The freezer fan and the damper in REGULATE outside a trip (R148, R149): where their requests stand as the rules give
them, every step leaves them so: the percent of FZ's tuning in force, and 100, where the rule's conditions hold, and 0
elsewhere. -/
def Obligations.FreezerFanAndDamperFollowTheirRules : Prop :=
  let fanOn (p : Part) : Prop := p.path.state = .run ∧ p.path.holder = some .fz ∧ p.path.runStarted = true ∧
    p.defrost.phase ≠ .recover ∧ p.doors.fz.stopActive = false
  let damperOn (p : Part) : Prop := (p.comps.cd.demand = .calling ∨ p.comps.cd.demand = .blindCall) ∧
    p.path.state = .run ∧ p.path.holder = some .fz ∧ p.path.runStarted = true ∧ p.doors.cd.stopActive = false
  let stands (p : Part) : Prop := p.mode = .regulate →
    (p.slots.fanFZ.tripMark = false →
      (fanOn p → p.slots.fanFZ.requested = p.comps.fz.tuning.fan) ∧ (¬fanOn p → p.slots.fanFZ.requested = 0)) ∧
    (p.slots.damperCD.tripMark = false →
      (damperOn p → p.slots.damperCD.requested = 100) ∧ (¬damperOn p → p.slots.damperCD.requested = 0))
  stands State.reset.part ∧ ∀ s t, stands s.part → step s = .next t → stands t.part

/-- The other requests of REGULATE outside a trip (R146, R147, R150): where they stand as their sources ask, every
step leaves them so: COMP and VALVE as the path arbiter, HEATER as the sequencer, the fresh-food fan and the condenser
fan as their rules. The request follows its source at the end of every event. The model's choices in it: log entry 18. -/
def Obligations.OtherRequestsFollowTheirSources : Prop :=
  let stands (p : Part) : Prop := p.mode = .regulate →
    (p.slots.comp.tripMark = false → p.slots.comp.requested = p.path.speed) ∧
    (p.slots.valve.tripMark = false → p.slots.valve.requested = if p.path.valve = .ff then 0 else 1) ∧
    (p.slots.heater.tripMark = false → p.slots.heater.requested = if p.defrost.heater then 1 else 0) ∧
    (p.slots.fanFF.tripMark = false → p.slots.fanFF.requested =
      if p.doors.ffL.stopActive = true ∨ p.doors.ffR.stopActive = true then 0
      else if (p.path.state = .run ∧ p.path.holder = some .ff ∧ p.path.runStarted = true) ∨
        p.offCycle ≠ .stopped then p.comps.ff.tuning.fan else 0) ∧
    (p.slots.fanCond.tripMark = false → p.slots.fanCond.requested =
      if p.slots.comp.sent.getD 0 = 0 then 0
      else match (p.point 5).resolved with
        | some x => if x.value < 2500 then 60 else 100
        | none => 100)
  stands State.reset.part ∧ ∀ s t, stands s.part → step s = .next t → stands t.part

/-! ## Trips -/

/-- TRIP (R165), with what a trip does (R160, R166, R99, R122, R112, R147) or a cause added (R167): the trip record and the
flag, the safe values, the path, the defrost aborted or its RECOVER ended with the DF claim by the deferral test, and the
FF off-cycle that begins where FF held a started run. The model's choices in it: log entries 7, 14, 18, 20 and 22. -/
def Obligations.TripRequestTakesOrAdds : Prop :=
  ∀ (p : Part) l, p.answers →
    (p.mode ≠ .regulate → p.mode ≠ .service → Runs (.trip (.form ())) ⟨p, l⟩ (p.refusedBy 21 .mode [])) ∧
    (p.mode = .regulate ∨ p.mode = .service → p.trip.state = .normal →
      Gives (.trip (.form ())) ⟨p, l⟩ fun q =>
        q.trip = { p.trip with
          state := .tripped
          first := some .hostTrip
          causes := ⟨false, false, true⟩
          second := some p.seconds
          absence := .stopped
          clean := if p.trip.clean = .running 0 then .running 1 else p.trip.clean } ∧
        (∃ att, q.holdsReply 21 .ok att (u8 1 ++ u8 2 ++ u32 p.seconds.toNat ++ u16 4)) ∧
        q.hasFlag .trip = true ∧ q.details.trip = { p.details.trip with hostTrip := true } ∧
        (∀ r, (q.slot r).tripMark = true ∧ (q.slot r).sent = (p.slot r).sent ∧
          (q.slot r).refresh = (p.slot r).refresh ∧ (q.slot r).status = (p.slot r).status ∧
          (q.slot r).requested = match r with
            | .comp => 0
            | .heater => 0
            | .valve => p.slots.valve.sent.getD p.slots.valve.requested
            | .fanFF => if p.tripSet.holdFF then p.slots.fanFF.sent.getD 0 else 0
            | .fanFZ => if p.tripSet.holdFZ then p.slots.fanFZ.sent.getD 0 else 0
            | .fanCond => if p.tripSet.holdCond then p.slots.fanCond.sent.getD 0 else 0
            | .damperCD => if p.tripSet.holdDamper then p.slots.damperCD.sent.getD 0 else 0) ∧
        (p.path.state ≠ .parked → p.path.state ≠ .tripped →
          q.path.state = .tripped ∧ q.path.holder = none ∧ q.path.queue = [] ∧ q.path.speed = 0 ∧
          q.path.runStarted = false ∧ q.path.satisfied = false ∧ q.path.switchTimer = .stopped ∧
          q.path.minHold = .stopped ∧ q.path.maxHold = .stopped ∧
          q.path.valve = (match p.slots.valve.sent with
            | some v => if v = 0 then .ff else .fz
            | none => p.path.valve)) ∧
        (p.defrost.phase.busy = true → q.defrost = { p.defrost with
            phase := .due
            heater := false
            heatTime := 0
            budget := 0
            budgetLoaded := 0
            endCause := none
            drip := .stopped
            dfClaim := q.defrost.dfClaim
            last := some ⟨p.defrost.heatTime, p.defrost.budgetLoaded - p.defrost.budget, .abortedTrip, none,
              p.seconds⟩ } ∧
          (q.defrost.dfClaim = false ↔ p.defrost.shedCopy = true ∧ ∃ since, p.defrost.dueSince = some since ∧
            (p.seconds - since).toNat < p.defrostSet.maxDeferral)) ∧
        (p.defrost.phase = .recover →
          (p.defrost.accumulation < p.defrost.interval → q.defrost = { p.defrost with
            recover := .stopped
            recoverClaim := false
            phase := .idle }) ∧
          (p.defrost.interval ≤ p.defrost.accumulation → q.defrost = { p.defrost with
              recover := .stopped
              recoverClaim := false
              phase := .due
              dueSince := some p.seconds
              dfClaim := q.defrost.dfClaim } ∧
            (q.defrost.dfClaim = false ↔ p.defrost.shedCopy = true ∧ 0 < p.defrostSet.maxDeferral))) ∧
        (p.defrost.phase = .idle ∨ p.defrost.phase = .due → q.defrost = p.defrost) ∧
        (p.claimsAgree → q.claimsAgree) ∧
        q.offCycle = (if p.path.state = .run ∧ p.path.holder = some .ff ∧ p.path.runStarted = true then
          if ((p.point 3).resolved.any fun x => decide (100 ≤ x.value)) = true then .stopped else .running 600
          else p.offCycle) ∧
        q = ({ p with
          trip := q.trip
          slots := q.slots
          path := q.path
          defrost := q.defrost
          offCycle := q.offCycle
          flags := q.flags
          details := q.details }).withEdge q ∧ OnlyRaises [.trip, .drop] p q) ∧
    (p.mode = .regulate ∨ p.mode = .service → p.trip.state ≠ .normal →
      Runs (.trip (.form ())) ⟨p, l⟩
        (({ p with
          trip := { p.trip with causes := { p.trip.causes with hostTrip := true }, absence := .stopped }
          flags := p.flags ||| BitVec.twoPow 12 6
          details.trip := { p.details.trip with hostTrip := true } }).reply 21 .ok
          (u8 (if p.trip.state = TripState.tripped then 1 else 2) ++ optU8 (p.trip.first.map Cause.code) ++
            optSecond p.trip.second ++ u16 ((if p.trip.causes.driveFault then 1 else 0) +
              (if p.trip.causes.driveSilent then 2 else 0) + 4))))

/-- The ends of a trip (R169, R170, R171, R172): REARM, and the decision at the expiry of the absence timer; and the
clean window's close. At an end the trip marks are cleared, and the path goes to OFF's take-up in REGULATE (R101), with
the valve position last sent adopted and the head of the raised claims granted, and to SERVICE in SERVICE. A timer that
has not run out does not expire (log entry 3). A relay frame waits only while the line is not FREE, which
`Obligations.LineAndQueuesStaySound` keeps. The model's choices in it: log entries 3, 7, 22 and 38. -/
def Obligations.TripsEndAndTheWindowCloses : Prop :=
  ∀ (p : Part) l,
    let ended (how : TripEnd) (q : Part) : Prop :=
      q.trip.state = .normal ∧ q.trip.first = none ∧ q.trip.second = none ∧ q.trip.causes = .empty ∧
      q.trip.silent = 0 ∧ q.trip.absence = .stopped ∧
      q.trip.last = some ⟨p.trip.first, p.trip.causes, p.trip.second, how⟩ ∧
      (∀ r, (q.slot r).tripMark = false ∧ (q.slot r).sent = (p.slot r).sent ∧
        (p.mode = .service ∨ p.mode = .bypass → (q.slot r).requested = (p.slot r).requested) ∧
        (p.mode = .showroom → r ≠ .valve → (q.slot r).requested = 0)) ∧
      (p.path.state = .tripped → p.mode = .regulate →
        q.path.state.takes = true ∧ q.tookUp p.valveSent ∧
        ∀ k, (q.path.claims.get k).raised = (p.path.claims.get k).raised ∧
          (q.path.claims.get k).cls = (p.path.claims.get k).cls) ∧
      (p.path.state = .tripped → p.mode ≠ .regulate → q.path = { p.path with state := .service }) ∧
      (p.path.state ≠ .tripped → q.path = p.path ∧ q.defrost = p.defrost) ∧
      q.comps = p.comps ∧ q.points = p.points ∧ q.doors = p.doors ∧ q.compStop = p.compStop ∧
      q.heaterOff = p.heaterOff ∧ q.mode = p.mode ∧ OnlyRaises [.drop] p q
    (p.serves → p.trip.state = .normal → Runs (.rearm (.form ())) ⟨p, l⟩ (p.refusedBy 22 .notHeld [])) ∧
    (p.serves → p.trip.state ≠ .normal → p.line.drained →
      Gives (.rearm (.form ())) ⟨p, l⟩ fun q =>
      ended .rearm q ∧ q.trip.rearms = 0 ∧ q.trip.clean = .stopped ∧
      ∃ att, q.holdsReply 22 .ok att (optU8 (p.trip.first.map Cause.code) ++ optSecond p.trip.second ++
        u16 ((if p.trip.causes.driveFault then 1 else 0) + (if p.trip.causes.driveSilent then 2 else 0) +
          (if p.trip.causes.hostTrip then 4 else 0)))) ∧
    (p.trip.state = .tripped → p.trip.absence = .running 0 →
      (p.tripSet.autoRearm = false ∨ p.trip.causes.hostTrip = true →
        Runs .absenceTimerExpiry ⟨p, l⟩ { p with trip.absence := .expired }) ∧
      (p.tripSet.autoRearm = true → p.trip.causes.hostTrip = false → p.trip.rearms < 2 →
        p.line.drained →
        Gives .absenceTimerExpiry ⟨p, l⟩ fun q => ended .auto q ∧ q.trip.rearms = p.trip.rearms + 1 ∧
          q.trip.clean = if p.trip.rearms = 0 then .running 1800 else p.trip.clean) ∧
      (p.tripSet.autoRearm = true → p.trip.causes.hostTrip = false → 2 ≤ p.trip.rearms →
        Runs .absenceTimerExpiry ⟨p, l⟩ { p with
          trip.state := .lockout
          trip.absence := .stopped
          flags := p.flags ||| BitVec.twoPow 12 7 })) ∧
    (p.trip.state ≠ .tripped ∨ p.trip.absence ≠ .running 0 → Runs .absenceTimerExpiry ⟨p, l⟩ p) ∧
    (p.trip.state = .normal → p.trip.clean = .running 0 →
      Runs .cleanTimerExpiry ⟨p, l⟩ { p with trip.rearms := 0, trip.clean := .stopped }) ∧
    (p.trip.state ≠ .normal ∨ p.trip.clean ≠ .running 0 → Runs .cleanTimerExpiry ⟨p, l⟩ p)

/-! ## The cabinet line -/

/-- A relay frame on arrival (R155, R156, R157, R168, R182, R183): discarded while a restart is pending; addressed to
no owned role it is queued, or refused with FULL; to an owned role it is refused with MODE in REGULATE and SHOWROOM,
queued in BYPASS, and in SERVICE absorbed into the role's slot. A code that HEATER or VALVE does not have is refused
with RANGE; under a trip mark an absorption is answered with BUSY and nothing is stored. The model's choices in it:
log entries 7, 12, 13, 14, 22 and 30. -/
def Obligations.RelayFramesAreJudged : Prop :=
  ∀ (p : Part) l (f : Frame), f.src = 0 → 2 ≤ f.dst.toNat → f.dst.toNat ≤ 62 → f.payload.length ≤ 40 →
    (f.kind = kindRequest → f.payload ≠ []) →
    let queue (X : Part → Prop) : Prop :=
      (p.line.relay.length < 8 → X { p with line.relay := p.line.relay ++ [f] }) ∧
      (8 ≤ p.line.relay.length → X (({ p with
        flags := p.flags ||| BitVec.twoPow 12 10
        details.drop.relay := true }).refusedFor f .full))
    (p.restartPending = true → Runs (.relayFrame f) ⟨p, l⟩ p) ∧
    (p.restartPending = false → p.addressedToNone f → queue fun q => Runs (.relayFrame f) ⟨p, l⟩ q) ∧
    (∀ r c hi lo, p.restartPending = false → f.payload = [c, hi, lo] → p.addressed f r →
      let v := hi.toNat * 256 + lo.toNat
      let bad := (r = .heater ∨ r = .valve) ∧ 1 < v
      let w := match r with
        | .comp => if v = 0 then 0 else clampNat p.pathLimits.sMin p.pathLimits.sMax v
        | .valve => v
        | .heater => v
        | _ => min 100 v
      (p.mode = .regulate ∨ p.mode = .showroom → Runs (.relayFrame f) ⟨p, l⟩ (p.refusedFor f .mode)) ∧
      (p.mode = .service ∨ p.mode = .bypass → bad → Runs (.relayFrame f) ⟨p, l⟩ (p.refusedFor f .range)) ∧
      (p.mode = .bypass → ¬bad → queue fun q => Runs (.relayFrame f) ⟨p, l⟩ q) ∧
      (p.mode = .service → ¬bad → (p.slot r).tripMark = true →
        Runs (.relayFrame f) ⟨p, l⟩ (p.reply 64 .busy [f.dst, f.kind])) ∧
      (p.mode = .service → ¬bad → (p.slot r).tripMark = false →
        Runs (.relayFrame f) ⟨p, l⟩ ((p.setSlot r { p.slot r with requested := w }).reply 64
          (if w = v then .ok else .clamped)
          ([f.dst, f.kind] ++ u8 (roleCode r) ++ u16 w ++ optU16 (p.screen r w)))))

/-- A poll's moment and a frame's last stop bit (R175, R176, R177, R181, R145, R151, R84, R114): at POLL_DUE the
scheduler's time is at least the node's next-due time; at CABINET_FRAME_SENT the line waits 20 ms for a reply with
CDIR at the receive level, and the value a DRIVE frame carries becomes the role's sent value, with what the
interlock's clocks, the path and the sequencer make of it. The model's choices in it: log entries 4 and 23. -/
def Obligations.PollsComeDueAndFramesGoOut : Prop :=
  (∀ (p : Part) l (n : Byte) a t b, p.line.times = a ++ (n.toNat, t) :: b → (∀ x, x ∈ a → x.1 ≠ n.toNat) →
    Runs (.pollDue n) ⟨p, l⟩ { p with
      line.ms := max p.line.ms t
      line.window := p.line.window.map fun k => k - (t - p.line.ms) }) ∧
    (∀ (p : Part) l (n : Byte), (∀ x, x ∈ p.line.times → x.1 ≠ n.toNat) → Runs (.pollDue n) ⟨p, l⟩ p) ∧
    (∀ (p : Part) l, p.line.state ≠ .sending → Runs .cabinetFrameSent ⟨p, l⟩ p) ∧
    ∀ (p : Part) l (x : Txn), p.line.state = .sending → p.line.txn = some x →
      let waits : LineRec := { p.line with state := .awaiting, window := some 20, cdir := .receive }
      (x.origin = .poll ∨ x.origin = .relay none → Runs .cabinetFrameSent ⟨p, l⟩ { p with line := waits }) ∧
      ∀ r c hi lo, x.origin = .slot r ∨ x.origin = .relay (some r) → x.frame.payload = [c, hi, lo] →
        let v := hi.toNat * 256 + lo.toNat
        Gives .cabinetFrameSent ⟨p, l⟩ fun q =>
          q.line = waits ∧ (q.slot r).sent = some v ∧
          (x.origin = .slot r → (q.slot r).refresh = .running 2 ∧ (q.slot r).due = false ∧
            (q.slot r).changed = ((q.slot r).outgoing.isSome && !((q.slot r).outgoing == some v))) ∧
          (x.origin ≠ .slot r → (q.slot r).refresh = (p.slot r).refresh ∧ (q.slot r).due = (p.slot r).due) ∧
          (q.slot r).status = (p.slot r).status ∧
          (∀ k, k ≠ r → (q.slot k).record = (p.slot k).record) ∧
          q.compStop = (if r ≠ .comp then p.compStop else if v ≠ 0 then none
            else if p.slots.comp.sent.getD 0 ≠ 0 then some p.seconds else p.compStop) ∧
          q.heaterOff = (if r ≠ .heater then p.heaterOff else if v ≠ 0 then none
            else if p.slots.heater.sent.getD 0 ≠ 0 then some p.seconds else p.heaterOff) ∧
          (r = .comp → v ≠ 0 → p.path.state = .run → p.path.runStarted = false →
            q.path = { p.path with
              runStarted := true
              minHold := .running p.pathTuning.minHold
              maxHold := .running p.pathTuning.maxHold
              divider := 0 }) ∧
          (r ≠ .comp ∨ v = 0 ∨ p.path.state ≠ .run ∨ p.path.runStarted = true → q.path = p.path) ∧
          (r = .heater → v ≠ 0 → p.defrost.phase = .prep →
            (∀ t, p.defrost.coil = some t → t < p.defrostSet.terminate) →
            q.defrost = { p.defrost with phase := .heat, heatTime := 0 }) ∧
          (∀ t, r = .heater → v ≠ 0 → p.defrost.phase = .prep → p.defrost.coil = some t →
            p.defrostSet.terminate ≤ t → q.defrost = { p.defrost with
              phase := .drip
              heatTime := 0
              heater := false
              endCause := some .terminated
              drip := .running p.interlock.tDrip }) ∧
          (r ≠ .heater ∨ v = 0 ∨ p.defrost.phase ≠ .prep → q.defrost = p.defrost) ∧
          (r = .damperCD → p.damper = .deviating → p.slots.damperCD.sent ≠ some v →
            q.deviation = .running 30) ∧
          (r ≠ .damperCD ∨ p.damper ≠ .deviating ∨ p.slots.damperCD.sent = some v →
            q.deviation = p.deviation) ∧
          q.flags = p.flags ∧ q.egress = p.egress ∧ q.comps = p.comps ∧ q.trip = p.trip ∧ q.mode = p.mode ∧
          q.seconds = p.seconds ∧ q.damper = p.damper

/-- A DRIVE STATUS ends the transaction of a slot, or of a relayed frame to an owned role, whose reply also goes on
unchanged (R158, R159, R164, R169, R177, R179, R185): the line is FREE and the status is stored with the second; COMP's
goes to the trip unit, DAMPER_CD's to the damper monitor, and a fault of a role other than COMP raises DRIVE. Another
channel, another kind or another length ends the transaction and is taken in by nobody. The model's choices in it: log
entry 16, log entry 20 for the clean timer that a trip meets at its last second (R166, R170), and log entry 23 for a status
received with the reply window at 0. -/
def Obligations.DriveStatusesAreTakenIn : Prop :=
  ∀ (p : Part) l (x : Txn) (r : Role) (c hi lo : Byte) (f : Frame), p.line.state = .awaiting → p.line.txn = some x →
    x.origin = .slot r ∧ f.dst = 1 ∨ x.origin = .relay (some r) ∧ f.dst = 0 →
    x.frame.payload = [c, hi, lo] → f.src = x.frame.dst → f.payload.length ≤ 40 →
    let base : Part := if x.origin = .slot r then p.lineFreed else p.lineFreed.placeReply ⟨.relayed, f⟩
    (f.kind ≠ kindDriveStatus ∨ f.payload.head? ≠ some c ∨ f.payload.length ≠ 4 →
      Runs (.cabinetReply f) ⟨p, l⟩ base) ∧
    ∀ (mh ml fault : Byte), f.kind = kindDriveStatus → f.payload = [c, mh, ml, fault] →
      let m := mh.toNat * 256 + ml.toNat
      let taken : Part := base.setSlot r { p.slot r with status := some ⟨m, decide (fault ≠ 0), p.seconds⟩ }
      let flagged (t : Part) : Part := if fault = 0 then t else { t with
        flags := base.flags ||| BitVec.twoPow 12 8
        details.drive := p.details.drive.set r true }
      (r ≠ .comp → r ≠ .damperCD → Runs (.cabinetReply f) ⟨p, l⟩ (flagged taken)) ∧
      (r = .damperCD →
        let off := (m : Int) - (p.slots.damperCD.sent.getD 0 : Nat)
        (-10 ≤ off → off ≤ 10 → Runs (.cabinetReply f) ⟨p, l⟩ (flagged { taken with
          damper := .watching
          deviation := .stopped })) ∧
        (off < -10 ∨ 10 < off → p.damper = .watching → Runs (.cabinetReply f) ⟨p, l⟩ (flagged { taken with
          damper := .deviating
          deviation := .running 30 })) ∧
        (off < -10 ∨ 10 < off → p.damper ≠ .watching → Runs (.cabinetReply f) ⟨p, l⟩ (flagged taken))) ∧
      (r = .comp → fault = 0 →
        (p.trip.state = .tripped → p.trip.absence = .stopped → Runs (.cabinetReply f) ⟨p, l⟩ { taken with
          trip := { p.trip with silent := 0, absence := .running p.tripSet.rearmDelay } }) ∧
        (p.trip.state ≠ .tripped ∨ p.trip.absence ≠ .stopped → Runs (.cabinetReply f) ⟨p, l⟩ { taken with
          trip := { p.trip with silent := 0 } })) ∧
      (r = .comp → fault ≠ 0 →
        (p.trip.state ≠ .normal → Runs (.cabinetReply f) ⟨p, l⟩ { taken with
          trip := { p.trip with
            silent := 0
            causes := { p.trip.causes with driveFault := true }
            absence := .stopped }
          flags := base.flags ||| BitVec.twoPow 12 6
          details.trip := { p.details.trip with driveFault := true } }) ∧
        (p.trip.state = .normal → Gives (.cabinetReply f) ⟨p, l⟩ fun q =>
          q.trip = { p.trip with
            silent := 0
            state := .tripped
            first := some .driveFault
            causes := ⟨true, false, false⟩
            second := some p.seconds
            absence := .stopped
            clean := if p.trip.clean = .running 0 then .running 1 else p.trip.clean } ∧
          (∀ k, (q.slot k).tripMark = true) ∧ q.slots.comp.requested = 0 ∧ q.slots.heater.requested = 0 ∧
          q.hasFlag .trip = true ∧ q.slots.comp.status = some ⟨m, true, p.seconds⟩))

/-- The replies to polls and relay frames, and frames that are none (R4, R5, R8 to R10, R12, R25, R31 to R35, R177, R178,
R185). A malformed SAMPLE or another kind is dropped; an unmapped channel is reported raw; a mapped one of a READY node is
delivered and reported as its entry says, of another node it is held; the channels of one reply are taken in their order
and reported in one READINGS frame, none when every channel is omitted; a relayed reply goes on unchanged. The model's
choices in it: log entry 23, log entry 30 for the SAMPLE whose bytes are no whole number of entries, log entry 35 for the
stale timer of a sample taken in SHOWROOM entered from BYPASS, and log entry 41 for a channel that the new map of a swap
has under another node. -/
def Obligations.PollsAndRelaysAreAnswered : Prop :=
  ∀ (p : Part) l (x : Txn) (f : Frame),
    (p.line.state ≠ .awaiting → Runs (.cabinetReply f) ⟨p, l⟩ p) ∧
    (p.line.state = .awaiting → p.line.txn = some x →
      (f.src ≠ x.frame.dst → p.line.window ≠ some 0 → Runs (.cabinetReply f) ⟨p, l⟩ p) ∧
      (f.src = x.frame.dst → f.payload.length ≤ 40 →
        (f.dst = 0 → x.origin = .relay none → Runs (.cabinetReply f) ⟨p, l⟩
          (p.lineFreed.placeReply ⟨.relayed, f⟩)) ∧
        (f.dst = 1 → x.origin = .poll →
          (f.kind ≠ kindSample ∨ f.payload.length % 3 ≠ 1 ∨ f.payload.length < 4 ∨ 25 < f.payload.length →
            Runs (.cabinetReply f) ⟨p, l⟩ p.lineFreed) ∧
          ∀ (status c hi lo : Byte), f.kind = kindSample → f.payload = [status, c, hi, lo] →
            let n := hi.toNat * 256 + lo.toNat
            let frame (q : Part) (quality : Nat) (value : Int) : Frame :=
              ⟨0, 1, kindReadings, markByte q.attention ++ [f.src] ++ [c] ++ u8 quality ++ i16 value⟩
            (7 < c.toNat ∨ 4095 < n → Runs (.cabinetReply f) ⟨p, l⟩ p.lineFreed) ∧
            (c.toNat ≤ 7 → n ≤ 4095 →
              ((∀ e, e ∈ p.activeEntries → ¬(e.node = f.src.toNat ∧ e.channel = c.toNat)) →
                Runs (.cabinetReply f) ⟨p, l⟩ (p.lineFreed.placeReadings (frame p 3 n))) ∧
              (∀ e (i : PointId), p.activeEntries.find? (fun y => y.node = f.src.toNat ∧ y.channel = c.toNat) =
                  some e → i.val = e.point →
                (status ≠ 0 ∨ p.mode = .bypass →
                  (e.forward = 0 → Runs (.cabinetReply f) ⟨p, l⟩
                    (p.lineFreed.placeReadings (frame p 4 (p.point i).filtered))) ∧
                  (e.forward = 1 → Runs (.cabinetReply f) ⟨p, l⟩ (p.lineFreed.placeReadings (frame p 2 n))) ∧
                  (2 ≤ e.forward → Runs (.cabinetReply f) ⟨p, l⟩ p.lineFreed)) ∧
                (status = 0 → p.mode ≠ .bypass → i.val < 6 ∨ 9 < i.val → e.forward = 0 →
                  p.egress.length + p.line.relay.length < 8 → ∀ knots t, p.validCurve e.curve = some knots →
                  convert knots n = some t →
                  let v := if (p.point i).state = .fresh then (p.point i).filtered +
                      filterStep (clampInt (-4000) 6000 (t + e.trim) - (p.point i).filtered) e.shift
                    else clampInt (-4000) 6000 (t + e.trim)
                  Gives (.cabinetReply f) ⟨p, l⟩ fun q =>
                    (q.point i).state = .fresh ∧ (q.point i).filtered = v ∧ (q.point i).lastRaw = some n ∧
                    (q.point i).lastSecond = some p.seconds ∧
                    (q.point i).stale = .running p.pointSet[i].staleTime ∧
                    (∃ att, (⟨.readings, ⟨0, 1, kindReadings, markByte att ++ [f.src] ++ [c] ++ u8 0 ++ i16 v⟩⟩ :
                      Egress) ∈ q.egress) ∧
                    (∀ j, j ≠ i → (q.point j).state = (p.point j).state ∧
                      (q.point j).filtered = (p.point j).filtered))))) ∧
        (f.dst = 1 → x.origin = .poll → f.kind = kindSample → ∀ (es : List ChannelEntry) status,
          f.payload = status :: (es.map fun y => u8 y.channel ++ u16 y.count).flatten →
          (∀ y, y ∈ es → y.channel ≤ 255 ∧ y.count ≤ 65535) →
          ((8 < es.length ∨ (∃ y, y ∈ es ∧ (7 < y.channel ∨ 4095 < y.count)) ∨
              ¬es.Pairwise fun a b => a.channel ≠ b.channel) → Runs (.cabinetReply f) ⟨p, l⟩ p.lineFreed) ∧
          (1 ≤ es.length → es.length ≤ 8 → (∀ y, y ∈ es → y.channel ≤ 7 ∧ y.count ≤ 4095) →
            (es.Pairwise fun a b => a.channel ≠ b.channel) →
            (∀ e, e ∈ p.activeEntries → e.point ≤ 15) →
            (p.activeEntries.Pairwise fun a b => a.point ≠ b.point) →
            let items := (es.map (p.itemOfChannel f.src.toNat (decide (status = 0)))).flatten
            let frame (att : Bool) : Frame := ⟨0, 1, kindReadings, markByte att ++ [f.src] ++ items⟩
            (status ≠ 0 ∨ p.mode = .bypass → Runs (.cabinetReply f) ⟨p, l⟩
              (if items = [] then p.lineFreed else p.lineFreed.placeReadings (frame p.attention))) ∧
            (status = 0 → p.mode ≠ .bypass → Gives (.cabinetReply f) ⟨p, l⟩ fun q =>
              (∀ (i : PointId) y e, y ∈ es → p.mappedTo f.src.toNat y = some e → i.val = e.point →
                let r := p.sampled true e i y.count
                (q.point i).state = r.1.state ∧ (q.point i).filtered = r.1.filtered ∧
                (q.point i).lastRaw = r.1.lastRaw ∧ (q.point i).lastSecond = r.1.lastSecond ∧
                (q.point i).stale = r.1.stale ∧
                (r.2 = 1 → (p.point i).state ≠ .faulty → q.hasFlag .sensor = true ∧
                  q.details.sensor[i] = true)) ∧
              (∀ i : PointId, (∀ y, y ∈ es → ∀ e, p.mappedTo f.src.toNat y = some e → e.point ≠ i.val) →
                (q.point i).state = (p.point i).state ∧ (q.point i).filtered = (p.point i).filtered ∧
                (q.point i).lastRaw = (p.point i).lastRaw ∧ (q.point i).stale = (p.point i).stale) ∧
              (items ≠ [] → p.egress.length + p.line.relay.length < 8 →
                ∃ att, (⟨.readings, frame att⟩ : Egress) ∈ q.egress) ∧
              (items = [] → ∀ y, y ∈ q.egress → y.sort = .readings → y ∈ p.egress))))))

/-- A wait that ends by timeout (R164, R177, R178, R179, R185): at REPLY_WINDOW_TIMEOUT its remaining milliseconds
have passed; a frame that is no reply ends it only with the window run out. A poll and a slot other than COMP hand
nothing on; COMP's silence is counted while it is commanded on, and the third in turn is a cause; a relay frame is
answered with NO_ANSWER. The model's choices in it: log entries 5 and 23. -/
def Obligations.WaitsEndByTimeout : Prop :=
  ∀ (p : Part) l,
    (p.line.state ≠ .awaiting → Runs .replyWindowTimeout ⟨p, l⟩ p ∧ Runs .cabinetFrameDiscard ⟨p, l⟩ p) ∧
    (p.line.window ≠ some 0 → Runs .cabinetFrameDiscard ⟨p, l⟩ p) ∧
    ∀ (x : Txn) w c, p.line.state = .awaiting → p.line.txn = some x → p.line.window = some w →
      c = Instr.replyWindowTimeout ∨ c = Instr.cabinetFrameDiscard ∧ w = 0 →
      let q : Part := { p.lineFreed with line.ms := p.line.ms + w }
      let absence : Timer := if p.trip.state = .tripped then .stopped else p.trip.absence
      (x.origin = .poll ∨ (∃ r, x.origin = .slot r ∧ r ≠ .comp) → Runs c ⟨p, l⟩ q) ∧
      (x.origin = .slot .comp →
        (p.slots.comp.sent.getD 0 = 0 → Runs c ⟨p, l⟩ { q with
          trip := { p.trip with silent := 0, absence := absence } }) ∧
        (p.slots.comp.sent.getD 0 ≠ 0 → p.trip.silent < 2 → Runs c ⟨p, l⟩ { q with
          trip := { p.trip with silent := p.trip.silent + 1, absence := absence } }) ∧
        (p.slots.comp.sent.getD 0 ≠ 0 → 2 ≤ p.trip.silent → p.trip.state ≠ .normal → Runs c ⟨p, l⟩ { q with
          trip := { p.trip with
            silent := 0
            absence := .stopped
            causes := { p.trip.causes with driveSilent := true } }
          flags := p.flags ||| BitVec.twoPow 12 6
          details.trip := { p.details.trip with driveSilent := true } }) ∧
        (p.slots.comp.sent.getD 0 ≠ 0 → 2 ≤ p.trip.silent → p.trip.state = .normal →
          Gives c ⟨p, l⟩ fun t => t.trip.state = .tripped ∧ t.trip.first = some .driveSilent ∧
            t.trip.causes = ⟨false, true, false⟩ ∧ t.trip.second = some p.seconds ∧ t.trip.silent = 0 ∧
            (∀ k, (t.slot k).tripMark = true) ∧ t.hasFlag .trip = true)) ∧
      (x.origin = .relay none ∨ (∃ r, x.origin = .relay (some r) ∧ r ≠ .comp) →
        Runs c ⟨p, l⟩ (q.reply 64 .noAnswer [x.frame.dst, x.frame.kind])) ∧
      (x.origin = .relay (some .comp) → p.egress.length < 8 → Gives c ⟨p, l⟩ fun t =>
        (∃ att, t.holdsReply 64 .noAnswer att [x.frame.dst, x.frame.kind]) ∧
        t.trip.silent = (if p.slots.comp.sent.getD 0 = 0 ∨ 2 ≤ p.trip.silent then 0 else p.trip.silent + 1))

/-! ## The second -/

/-- A second of the part's clock (R204, R53, R67, R73, R96, R109, R115, R117, R144): the count rises, every running
timer and count steps, the frost accumulates, and nothing else changes; the expiries are commands of their own. While
a started holder's air point is LOST the second counts as a value of it: of a counted value, one the compartment unit
passes or such a second, the divider count rises, and when it reaches the speed divider the speed request becomes what
R94 and R95 give. The model's choices in it: log entry 3, and log entry 1, by which the scheduler's milliseconds and a
reply window stand still through a second. -/
def Obligations.SecondStepsTheTimers : Prop :=
  ∀ (p : Part) l,
    let down (t : Timer) : Timer := match t with
      | .running (n + 1) => .running n
      | x => x
    let frost := (if p.path.state = .run ∧ p.path.holder = some .fz ∧ p.path.runStarted = true then 1 else 0) +
      (if p.doors.fz.isOpen = true ∨ p.doors.cd.isOpen = true then p.defrostSet.doorWeight else 0)
    let own := decide (p.mode ≠ .bypass ∧ p.driveMap ≠ none)
    let q : Part := { p with
      seconds := p.seconds + 1
      points := Vector.ofFn fun i => { p.points[i] with stale := down p.points[i].stale }
      comps := p.comps.mapWith fun _ r => { r with
        stack := r.stack.map fun o =>
          { o with remaining := if o.tag = .live ∧ o.duration ≠ 0 then o.remaining - 1 else o.remaining }
        blind := down r.blind
        warmCount :=
          if r.warm = .counting ∧ r.warmCount < r.tuning.warmDelay then r.warmCount + 1 else r.warmCount }
      path.switchTimer := down p.path.switchTimer
      path.minHold := down p.path.minHold
      path.maxHold := down p.path.maxHold
      defrost.accumulation := if (p.mode = .regulate ∨ p.mode = .service) ∧
          (p.defrost.phase = .idle ∨ p.defrost.phase = .due ∨ p.defrost.phase = .recover) then
        min 16777215 (p.defrost.accumulation + frost) else p.defrost.accumulation
      defrost.heatTime := if p.defrost.phase = .heat ∧ p.defrost.heatTime < p.pathLimits.maxHeat then
        p.defrost.heatTime + 1 else p.defrost.heatTime
      defrost.budget := if p.defrost.phase = .hold then p.defrost.budget - 1 else p.defrost.budget
      defrost.drip := down p.defrost.drip
      defrost.recover := down p.defrost.recover
      doors := p.doors.mapWith fun _ d =>
        if p.polls then { d with fanStop := down d.fanStop, ajar := down d.ajar } else d
      slots := p.slots.mapWith fun _ s => if own then { s with refresh := down s.refresh } else s
      offCycle := down p.offCycle
      deviation := down p.deviation
      trip.absence := if p.trip.state = .tripped then down p.trip.absence else p.trip.absence
      trip.clean := if p.trip.state = .normal then down p.trip.clean else p.trip.clean
      load := p.load.map fun x => { x with timer := down x.timer } }
    (p.comps.ff.lost = false → p.comps.fz.lost = false → Runs .secondTick ⟨p, l⟩ q) ∧
    ((p.path.state ≠ .run ∨ p.path.runStarted = false ∨ p.path.holder = some .df) →
      Runs .secondTick ⟨p, l⟩ q) ∧
    (∃ speed prev divider, Runs .secondTick ⟨p, l⟩ { q with
      path := { q.path with speed := speed, prevSpeed := prev, divider := divider } }) ∧
    (let counts (c : Comp) : Prop := p.path.state = .run ∧ p.path.runStarted = true ∧
        (p.path.holder = some .ff ∧ c = .ff ∨ p.path.holder = some .fz ∧ c = .fz)
      ∀ c,
        (¬counts c → p.passValue c = p) ∧
        ((∀ k, counts k → (p.comp k).lost = false) → Runs .secondTick ⟨p, l⟩ q) ∧
        (p.limitsSound → p.callsSound → counts c →
          p.passValue c = p.counted p.ruledSpeed.toNat ∧
          ((p.comp c).lost = true → Runs .secondTick ⟨p, l⟩ (q.counted p.ruledSpeed.toNat))))

/-! ## What every step keeps -/

/-- The interlock's law (R151): the compressor command and the heater command are never both on, and no frame in
flight will make them so; every step from any state keeps it. -/
def Obligations.NeverBothOn : Prop := ∀ s t, s.part.neverBoth → step s = .next t → t.part.neverBoth

/-- The line record and the queues (R175, R176, R177, R180, R182, R192): CDIR at the drive level exactly while SENDING,
a transaction exactly while the line is not FREE, a reply window exactly while AWAITING, and 8 frames at most in either
queue; no relay frame waits while the line is FREE; and every frame that waits, is in flight or was last begun on MTX keeps
to the 40 bytes of payload of R188. Every step from any state keeps these. -/
def Obligations.LineAndQueuesStaySound : Prop :=
  ∀ s t, step s = .next t →
    (s.part.line.sound → s.part.queuesFit → t.part.line.sound ∧ t.part.queuesFit) ∧
    (s.part.line.drained → t.part.line.drained) ∧
    (s.part.framesFit → t.part.framesFit)

/-- The compartments (R44, R45, R48, R49, R55), the speed limits (R75), the load record (R195, R197), the tables (R194),
the point maps (R28, R29) and the calls (R58, R59, R65): each base lies in its ordered limits, each stack keeps its law,
the speed limits are in range and in order, a table is LOADING exactly while the load record names it and the active map
is VALID, every table keeps its number of entries and fields, a VALID map meets the conditions of its close, and a
CALLING compartment has a value, and outside REGULATE and SERVICE every compartment is held IDLE; every step from any
state keeps it. -/
def Obligations.CompartmentsLimitsAndLoadsStaySound : Prop :=
  ∀ s t, step s = .next t →
    (s.part.compsSound → t.part.compsSound) ∧ (s.part.limitsSound → t.part.limitsSound) ∧
    (s.part.loadSound → t.part.loadSound ∧ (s.part.mapsSound → t.part.mapsSound)) ∧
    (s.part.tablesSound → t.part.tablesSound) ∧ (s.part.callsSound → t.part.callsSound) ∧
    (s.part.demandsHeld → t.part.demandsHeld)

/-- The law of the path and of the defrost (R73, R74, R77, R78, R81, R85, R106, R113, R121, R160): the claim records
follow the claims, every raised claimant holds or waits in grant order where claims are taken, the path state is what
mode and trip give, and DF holds the path exactly through PREP, HEAT, HOLD and DRIP; the claims of FF and FZ are of class 1 or 2.
Every step from any state keeps both. -/
def Obligations.PathAndDefrostKeepTheirLaw : Prop :=
  ∀ s t, step s = .next t →
    (s.part.pathLaw → t.part.pathLaw) ∧ (s.part.classesSound → t.part.classesSound)

/-- Resolutions (R15, R16, R17, R21, R44, R106, R127, R129): every point's resolved value is that of the first FRESH
point of its chain, its LOST mark stands as it says, and the compartments and the sequencer hold the values announced;
a door stands open exactly while its point resolves to 1. Every step from any state keeps both. -/
def Obligations.ResolutionsStandAndAreFollowed : Prop :=
  ∀ s t, step s = .next t →
    (s.part.resolutionsStand → t.part.resolutionsStand) ∧ (s.part.doorsFollow → t.part.doorsFollow)

/-- The machine after power-on reset meets what every step keeps, and holds the values listed here, which the
spec gives for power-on reset (R26, R29, R72, R105, R126, R161, R174, R187, R207). -/
def Obligations.ResetMeetsTheLaws : Prop :=
  let p := State.reset.part
  p.neverBoth ∧ p.line.sound ∧ p.line.drained ∧ p.queuesFit ∧ p.framesFit ∧ p.compsSound ∧ p.limitsSound ∧
    p.loadSound ∧ p.tablesSound ∧ p.mapsSound ∧ p.callsSound ∧ p.demandsHeld ∧ p.classesSound ∧ p.pathLaw ∧ p.resolutionsStand ∧
    p.doorsFollow ∧ State.reset.pending = [] ∧
    p.activeMap = .a ∧ (p.table 0).state = .valid ∧ (p.table 1).state = .valid ∧
    (∀ i, (p.point i).state = .unseen ∧ (p.point i).stale = .stopped ∧ p.pointSet[i] = ⟨none, 10⟩) ∧
    p.path.state = .parked ∧ p.path.valve = .fz ∧ p.pathLimits = ⟨1600, 4200, 300, 2400, 900⟩ ∧
    p.defrost.phase = .idle ∧ p.defrost.interval = 28800 ∧
    (∀ r, (p.slot r).sent = none ∧ (p.slot r).changed = true ∧ (p.slot r).requested = if r = .valve then 1 else 0) ∧
    p.driveMap = none ∧ p.compStop = some 0 ∧ p.heaterOff = some 0 ∧ p.trip.state = .normal ∧
    p.line.state = .free ∧ p.line.lastTaken = .poll ∧ p.line.cdir = .receive ∧ p.line.ms = 0
end

