-- ==== Sys2Proof/Laws/State.lean ====
section
/-! SUPPORT. One lemma per field per update of the part, true by `rfl`, and the laws of the fixed collections:
what is set is what is read, and nothing else changes. -/

namespace Sys2Proof.Machine

/-! ## Fixed collections -/

@[simp] theorem Comps.get_set_self {α : Type} (v : Comps α) (c : Comp) (x : α) : (v.set c x).get c = x := by
  cases c <;> rfl

theorem Comps.get_set_other {α : Type} (v : Comps α) {c d : Comp} (x : α) (h : d ≠ c) :
    (v.set c x).get d = v.get d := by
  cases c <;> cases d <;> first | rfl | exact absurd rfl h

@[simp] theorem Comps.get_mapWith {α β : Type} (f : Comp → α → β) (v : Comps α) (c : Comp) :
    (v.mapWith f).get c = f c (v.get c) := by
  cases c <;> rfl

theorem Comps.ext_get {α : Type} {v w : Comps α} (h : ∀ c, v.get c = w.get c) : v = w := by
  cases v; cases w
  simp only [Comps.mk.injEq]
  exact ⟨h .ff, h .cd, h .fz⟩

@[simp] theorem Doors.get_set_self {α : Type} (v : Doors α) (c : DoorId) (x : α) : (v.set c x).get c = x := by
  cases c <;> rfl

theorem Doors.get_set_other {α : Type} (v : Doors α) {c d : DoorId} (x : α) (h : d ≠ c) :
    (v.set c x).get d = v.get d := by
  cases c <;> cases d <;> first | rfl | exact absurd rfl h

@[simp] theorem Doors.get_mapWith {α β : Type} (f : DoorId → α → β) (v : Doors α) (c : DoorId) :
    (v.mapWith f).get c = f c (v.get c) := by
  cases c <;> rfl

theorem Doors.ext_get {α : Type} {v w : Doors α} (h : ∀ c, v.get c = w.get c) : v = w := by
  cases v; cases w
  simp only [Doors.mk.injEq]
  exact ⟨h .ffL, h .ffR, h .cd, h .fz⟩

@[simp] theorem Roles.get_set_self {α : Type} (v : Roles α) (c : Role) (x : α) : (v.set c x).get c = x := by
  cases c <;> rfl

theorem Roles.get_set_other {α : Type} (v : Roles α) {c d : Role} (x : α) (h : d ≠ c) :
    (v.set c x).get d = v.get d := by
  cases c <;> cases d <;> first | rfl | exact absurd rfl h

@[simp] theorem Roles.get_mapWith {α β : Type} (f : Role → α → β) (v : Roles α) (c : Role) :
    (v.mapWith f).get c = f c (v.get c) := by
  cases c <;> rfl

theorem Roles.ext_get {α : Type} {v w : Roles α} (h : ∀ c, v.get c = w.get c) : v = w := by
  cases v; cases w
  simp only [Roles.mk.injEq]
  exact ⟨h .comp, h .valve, h .heater, h .fanFF, h .fanFZ, h .fanCond, h .damperCD⟩

@[simp] theorem Claims.get_set_self (v : Claims) (k : Claimant) (x : Claim) : (v.set k x).get k = x := by
  cases k <;> rfl

theorem Claims.get_set_other (v : Claims) {k j : Claimant} (x : Claim) (h : j ≠ k) :
    (v.set k x).get j = v.get j := by
  cases k <;> cases j <;> first | rfl | exact absurd rfl h

/-! ## Updates of the part -/

@[simp] theorem Part.setTable_mode (p : Part) (t : TableId) (x : Table) : (p.setTable t x).mode = p.mode := rfl
@[simp] theorem Part.setTable_origin (p : Part) (t : TableId) (x : Table) : (p.setTable t x).origin = p.origin := rfl
@[simp] theorem Part.setTable_seconds (p : Part) (t : TableId) (x : Table) : (p.setTable t x).seconds = p.seconds := rfl
@[simp] theorem Part.setTable_points (p : Part) (t : TableId) (x : Table) : (p.setTable t x).points = p.points := rfl
@[simp] theorem Part.setTable_pointSet (p : Part) (t : TableId) (x : Table) : (p.setTable t x).pointSet = p.pointSet := rfl
@[simp] theorem Part.setTable_activeMap (p : Part) (t : TableId) (x : Table) : (p.setTable t x).activeMap = p.activeMap := rfl
@[simp] theorem Part.setTable_comps (p : Part) (t : TableId) (x : Table) : (p.setTable t x).comps = p.comps := rfl
@[simp] theorem Part.setTable_path (p : Part) (t : TableId) (x : Table) : (p.setTable t x).path = p.path := rfl
@[simp] theorem Part.setTable_pathLimits (p : Part) (t : TableId) (x : Table) : (p.setTable t x).pathLimits = p.pathLimits := rfl
@[simp] theorem Part.setTable_pathTuning (p : Part) (t : TableId) (x : Table) : (p.setTable t x).pathTuning = p.pathTuning := rfl
@[simp] theorem Part.setTable_defrost (p : Part) (t : TableId) (x : Table) : (p.setTable t x).defrost = p.defrost := rfl
@[simp] theorem Part.setTable_defrostSet (p : Part) (t : TableId) (x : Table) : (p.setTable t x).defrostSet = p.defrostSet := rfl
@[simp] theorem Part.setTable_intervals (p : Part) (t : TableId) (x : Table) : (p.setTable t x).intervals = p.intervals := rfl
@[simp] theorem Part.setTable_doors (p : Part) (t : TableId) (x : Table) : (p.setTable t x).doors = p.doors := rfl
@[simp] theorem Part.setTable_doorSet (p : Part) (t : TableId) (x : Table) : (p.setTable t x).doorSet = p.doorSet := rfl
@[simp] theorem Part.setTable_slots (p : Part) (t : TableId) (x : Table) : (p.setTable t x).slots = p.slots := rfl
@[simp] theorem Part.setTable_driveMap (p : Part) (t : TableId) (x : Table) : (p.setTable t x).driveMap = p.driveMap := rfl
@[simp] theorem Part.setTable_interlock (p : Part) (t : TableId) (x : Table) : (p.setTable t x).interlock = p.interlock := rfl
@[simp] theorem Part.setTable_compStop (p : Part) (t : TableId) (x : Table) : (p.setTable t x).compStop = p.compStop := rfl
@[simp] theorem Part.setTable_heaterOff (p : Part) (t : TableId) (x : Table) : (p.setTable t x).heaterOff = p.heaterOff := rfl
@[simp] theorem Part.setTable_offCycle (p : Part) (t : TableId) (x : Table) : (p.setTable t x).offCycle = p.offCycle := rfl
@[simp] theorem Part.setTable_damper (p : Part) (t : TableId) (x : Table) : (p.setTable t x).damper = p.damper := rfl
@[simp] theorem Part.setTable_deviation (p : Part) (t : TableId) (x : Table) : (p.setTable t x).deviation = p.deviation := rfl
@[simp] theorem Part.setTable_trip (p : Part) (t : TableId) (x : Table) : (p.setTable t x).trip = p.trip := rfl
@[simp] theorem Part.setTable_tripSet (p : Part) (t : TableId) (x : Table) : (p.setTable t x).tripSet = p.tripSet := rfl
@[simp] theorem Part.setTable_line (p : Part) (t : TableId) (x : Table) : (p.setTable t x).line = p.line := rfl
@[simp] theorem Part.setTable_egress (p : Part) (t : TableId) (x : Table) : (p.setTable t x).egress = p.egress := rfl
@[simp] theorem Part.setTable_mtx (p : Part) (t : TableId) (x : Table) : (p.setTable t x).mtx = p.mtx := rfl
@[simp] theorem Part.setTable_load (p : Part) (t : TableId) (x : Table) : (p.setTable t x).load = p.load := rfl
@[simp] theorem Part.setTable_lockLevel (p : Part) (t : TableId) (x : Table) : (p.setTable t x).lockLevel = p.lockLevel := rfl
@[simp] theorem Part.setTable_lockWritten (p : Part) (t : TableId) (x : Table) : (p.setTable t x).lockWritten = p.lockWritten := rfl
@[simp] theorem Part.setTable_flags (p : Part) (t : TableId) (x : Table) : (p.setTable t x).flags = p.flags := rfl
@[simp] theorem Part.setTable_mask (p : Part) (t : TableId) (x : Table) : (p.setTable t x).mask = p.mask := rfl
@[simp] theorem Part.setTable_details (p : Part) (t : TableId) (x : Table) : (p.setTable t x).details = p.details := rfl
@[simp] theorem Part.setTable_refusal (p : Part) (t : TableId) (x : Table) : (p.setTable t x).refusal = p.refusal := rfl
@[simp] theorem Part.setTable_refusals (p : Part) (t : TableId) (x : Table) : (p.setTable t x).refusals = p.refusals := rfl
@[simp] theorem Part.setTable_restartPending (p : Part) (t : TableId) (x : Table) : (p.setTable t x).restartPending = p.restartPending := rfl
@[simp] theorem Part.setTable_choices (p : Part) (t : TableId) (x : Table) : (p.setTable t x).choices = p.choices := rfl

@[simp] theorem Part.setPoint_mode (p : Part) (i : PointId) (x : Point) : (p.setPoint i x).mode = p.mode := rfl
@[simp] theorem Part.setPoint_origin (p : Part) (i : PointId) (x : Point) : (p.setPoint i x).origin = p.origin := rfl
@[simp] theorem Part.setPoint_seconds (p : Part) (i : PointId) (x : Point) : (p.setPoint i x).seconds = p.seconds := rfl
@[simp] theorem Part.setPoint_pointSet (p : Part) (i : PointId) (x : Point) : (p.setPoint i x).pointSet = p.pointSet := rfl
@[simp] theorem Part.setPoint_activeMap (p : Part) (i : PointId) (x : Point) : (p.setPoint i x).activeMap = p.activeMap := rfl
@[simp] theorem Part.setPoint_comps (p : Part) (i : PointId) (x : Point) : (p.setPoint i x).comps = p.comps := rfl
@[simp] theorem Part.setPoint_path (p : Part) (i : PointId) (x : Point) : (p.setPoint i x).path = p.path := rfl
@[simp] theorem Part.setPoint_pathLimits (p : Part) (i : PointId) (x : Point) : (p.setPoint i x).pathLimits = p.pathLimits := rfl
@[simp] theorem Part.setPoint_pathTuning (p : Part) (i : PointId) (x : Point) : (p.setPoint i x).pathTuning = p.pathTuning := rfl
@[simp] theorem Part.setPoint_defrost (p : Part) (i : PointId) (x : Point) : (p.setPoint i x).defrost = p.defrost := rfl
@[simp] theorem Part.setPoint_defrostSet (p : Part) (i : PointId) (x : Point) : (p.setPoint i x).defrostSet = p.defrostSet := rfl
@[simp] theorem Part.setPoint_intervals (p : Part) (i : PointId) (x : Point) : (p.setPoint i x).intervals = p.intervals := rfl
@[simp] theorem Part.setPoint_doors (p : Part) (i : PointId) (x : Point) : (p.setPoint i x).doors = p.doors := rfl
@[simp] theorem Part.setPoint_doorSet (p : Part) (i : PointId) (x : Point) : (p.setPoint i x).doorSet = p.doorSet := rfl
@[simp] theorem Part.setPoint_slots (p : Part) (i : PointId) (x : Point) : (p.setPoint i x).slots = p.slots := rfl
@[simp] theorem Part.setPoint_driveMap (p : Part) (i : PointId) (x : Point) : (p.setPoint i x).driveMap = p.driveMap := rfl
@[simp] theorem Part.setPoint_interlock (p : Part) (i : PointId) (x : Point) : (p.setPoint i x).interlock = p.interlock := rfl
@[simp] theorem Part.setPoint_compStop (p : Part) (i : PointId) (x : Point) : (p.setPoint i x).compStop = p.compStop := rfl
@[simp] theorem Part.setPoint_heaterOff (p : Part) (i : PointId) (x : Point) : (p.setPoint i x).heaterOff = p.heaterOff := rfl
@[simp] theorem Part.setPoint_offCycle (p : Part) (i : PointId) (x : Point) : (p.setPoint i x).offCycle = p.offCycle := rfl
@[simp] theorem Part.setPoint_damper (p : Part) (i : PointId) (x : Point) : (p.setPoint i x).damper = p.damper := rfl
@[simp] theorem Part.setPoint_deviation (p : Part) (i : PointId) (x : Point) : (p.setPoint i x).deviation = p.deviation := rfl
@[simp] theorem Part.setPoint_trip (p : Part) (i : PointId) (x : Point) : (p.setPoint i x).trip = p.trip := rfl
@[simp] theorem Part.setPoint_tripSet (p : Part) (i : PointId) (x : Point) : (p.setPoint i x).tripSet = p.tripSet := rfl
@[simp] theorem Part.setPoint_line (p : Part) (i : PointId) (x : Point) : (p.setPoint i x).line = p.line := rfl
@[simp] theorem Part.setPoint_egress (p : Part) (i : PointId) (x : Point) : (p.setPoint i x).egress = p.egress := rfl
@[simp] theorem Part.setPoint_mtx (p : Part) (i : PointId) (x : Point) : (p.setPoint i x).mtx = p.mtx := rfl
@[simp] theorem Part.setPoint_tables (p : Part) (i : PointId) (x : Point) : (p.setPoint i x).tables = p.tables := rfl
@[simp] theorem Part.setPoint_load (p : Part) (i : PointId) (x : Point) : (p.setPoint i x).load = p.load := rfl
@[simp] theorem Part.setPoint_lockLevel (p : Part) (i : PointId) (x : Point) : (p.setPoint i x).lockLevel = p.lockLevel := rfl
@[simp] theorem Part.setPoint_lockWritten (p : Part) (i : PointId) (x : Point) : (p.setPoint i x).lockWritten = p.lockWritten := rfl
@[simp] theorem Part.setPoint_flags (p : Part) (i : PointId) (x : Point) : (p.setPoint i x).flags = p.flags := rfl
@[simp] theorem Part.setPoint_mask (p : Part) (i : PointId) (x : Point) : (p.setPoint i x).mask = p.mask := rfl
@[simp] theorem Part.setPoint_details (p : Part) (i : PointId) (x : Point) : (p.setPoint i x).details = p.details := rfl
@[simp] theorem Part.setPoint_refusal (p : Part) (i : PointId) (x : Point) : (p.setPoint i x).refusal = p.refusal := rfl
@[simp] theorem Part.setPoint_refusals (p : Part) (i : PointId) (x : Point) : (p.setPoint i x).refusals = p.refusals := rfl
@[simp] theorem Part.setPoint_restartPending (p : Part) (i : PointId) (x : Point) : (p.setPoint i x).restartPending = p.restartPending := rfl
@[simp] theorem Part.setPoint_choices (p : Part) (i : PointId) (x : Point) : (p.setPoint i x).choices = p.choices := rfl

@[simp] theorem Part.setDoor_mode (p : Part) (d : DoorId) (x : DoorRec) : (p.setDoor d x).mode = p.mode := rfl
@[simp] theorem Part.setDoor_origin (p : Part) (d : DoorId) (x : DoorRec) : (p.setDoor d x).origin = p.origin := rfl
@[simp] theorem Part.setDoor_seconds (p : Part) (d : DoorId) (x : DoorRec) : (p.setDoor d x).seconds = p.seconds := rfl
@[simp] theorem Part.setDoor_points (p : Part) (d : DoorId) (x : DoorRec) : (p.setDoor d x).points = p.points := rfl
@[simp] theorem Part.setDoor_pointSet (p : Part) (d : DoorId) (x : DoorRec) : (p.setDoor d x).pointSet = p.pointSet := rfl
@[simp] theorem Part.setDoor_activeMap (p : Part) (d : DoorId) (x : DoorRec) : (p.setDoor d x).activeMap = p.activeMap := rfl
@[simp] theorem Part.setDoor_comps (p : Part) (d : DoorId) (x : DoorRec) : (p.setDoor d x).comps = p.comps := rfl
@[simp] theorem Part.setDoor_path (p : Part) (d : DoorId) (x : DoorRec) : (p.setDoor d x).path = p.path := rfl
@[simp] theorem Part.setDoor_pathLimits (p : Part) (d : DoorId) (x : DoorRec) : (p.setDoor d x).pathLimits = p.pathLimits := rfl
@[simp] theorem Part.setDoor_pathTuning (p : Part) (d : DoorId) (x : DoorRec) : (p.setDoor d x).pathTuning = p.pathTuning := rfl
@[simp] theorem Part.setDoor_defrost (p : Part) (d : DoorId) (x : DoorRec) : (p.setDoor d x).defrost = p.defrost := rfl
@[simp] theorem Part.setDoor_defrostSet (p : Part) (d : DoorId) (x : DoorRec) : (p.setDoor d x).defrostSet = p.defrostSet := rfl
@[simp] theorem Part.setDoor_intervals (p : Part) (d : DoorId) (x : DoorRec) : (p.setDoor d x).intervals = p.intervals := rfl
@[simp] theorem Part.setDoor_doorSet (p : Part) (d : DoorId) (x : DoorRec) : (p.setDoor d x).doorSet = p.doorSet := rfl
@[simp] theorem Part.setDoor_slots (p : Part) (d : DoorId) (x : DoorRec) : (p.setDoor d x).slots = p.slots := rfl
@[simp] theorem Part.setDoor_driveMap (p : Part) (d : DoorId) (x : DoorRec) : (p.setDoor d x).driveMap = p.driveMap := rfl
@[simp] theorem Part.setDoor_interlock (p : Part) (d : DoorId) (x : DoorRec) : (p.setDoor d x).interlock = p.interlock := rfl
@[simp] theorem Part.setDoor_compStop (p : Part) (d : DoorId) (x : DoorRec) : (p.setDoor d x).compStop = p.compStop := rfl
@[simp] theorem Part.setDoor_heaterOff (p : Part) (d : DoorId) (x : DoorRec) : (p.setDoor d x).heaterOff = p.heaterOff := rfl
@[simp] theorem Part.setDoor_offCycle (p : Part) (d : DoorId) (x : DoorRec) : (p.setDoor d x).offCycle = p.offCycle := rfl
@[simp] theorem Part.setDoor_damper (p : Part) (d : DoorId) (x : DoorRec) : (p.setDoor d x).damper = p.damper := rfl
@[simp] theorem Part.setDoor_deviation (p : Part) (d : DoorId) (x : DoorRec) : (p.setDoor d x).deviation = p.deviation := rfl
@[simp] theorem Part.setDoor_trip (p : Part) (d : DoorId) (x : DoorRec) : (p.setDoor d x).trip = p.trip := rfl
@[simp] theorem Part.setDoor_tripSet (p : Part) (d : DoorId) (x : DoorRec) : (p.setDoor d x).tripSet = p.tripSet := rfl
@[simp] theorem Part.setDoor_line (p : Part) (d : DoorId) (x : DoorRec) : (p.setDoor d x).line = p.line := rfl
@[simp] theorem Part.setDoor_egress (p : Part) (d : DoorId) (x : DoorRec) : (p.setDoor d x).egress = p.egress := rfl
@[simp] theorem Part.setDoor_mtx (p : Part) (d : DoorId) (x : DoorRec) : (p.setDoor d x).mtx = p.mtx := rfl
@[simp] theorem Part.setDoor_tables (p : Part) (d : DoorId) (x : DoorRec) : (p.setDoor d x).tables = p.tables := rfl
@[simp] theorem Part.setDoor_load (p : Part) (d : DoorId) (x : DoorRec) : (p.setDoor d x).load = p.load := rfl
@[simp] theorem Part.setDoor_lockLevel (p : Part) (d : DoorId) (x : DoorRec) : (p.setDoor d x).lockLevel = p.lockLevel := rfl
@[simp] theorem Part.setDoor_lockWritten (p : Part) (d : DoorId) (x : DoorRec) : (p.setDoor d x).lockWritten = p.lockWritten := rfl
@[simp] theorem Part.setDoor_flags (p : Part) (d : DoorId) (x : DoorRec) : (p.setDoor d x).flags = p.flags := rfl
@[simp] theorem Part.setDoor_mask (p : Part) (d : DoorId) (x : DoorRec) : (p.setDoor d x).mask = p.mask := rfl
@[simp] theorem Part.setDoor_details (p : Part) (d : DoorId) (x : DoorRec) : (p.setDoor d x).details = p.details := rfl
@[simp] theorem Part.setDoor_refusal (p : Part) (d : DoorId) (x : DoorRec) : (p.setDoor d x).refusal = p.refusal := rfl
@[simp] theorem Part.setDoor_refusals (p : Part) (d : DoorId) (x : DoorRec) : (p.setDoor d x).refusals = p.refusals := rfl
@[simp] theorem Part.setDoor_restartPending (p : Part) (d : DoorId) (x : DoorRec) : (p.setDoor d x).restartPending = p.restartPending := rfl
@[simp] theorem Part.setDoor_choices (p : Part) (d : DoorId) (x : DoorRec) : (p.setDoor d x).choices = p.choices := rfl

@[simp] theorem Part.setSlot_mode (p : Part) (r : Role) (x : Slot) : (p.setSlot r x).mode = p.mode := rfl
@[simp] theorem Part.setSlot_origin (p : Part) (r : Role) (x : Slot) : (p.setSlot r x).origin = p.origin := rfl
@[simp] theorem Part.setSlot_seconds (p : Part) (r : Role) (x : Slot) : (p.setSlot r x).seconds = p.seconds := rfl
@[simp] theorem Part.setSlot_points (p : Part) (r : Role) (x : Slot) : (p.setSlot r x).points = p.points := rfl
@[simp] theorem Part.setSlot_pointSet (p : Part) (r : Role) (x : Slot) : (p.setSlot r x).pointSet = p.pointSet := rfl
@[simp] theorem Part.setSlot_activeMap (p : Part) (r : Role) (x : Slot) : (p.setSlot r x).activeMap = p.activeMap := rfl
@[simp] theorem Part.setSlot_comps (p : Part) (r : Role) (x : Slot) : (p.setSlot r x).comps = p.comps := rfl
@[simp] theorem Part.setSlot_path (p : Part) (r : Role) (x : Slot) : (p.setSlot r x).path = p.path := rfl
@[simp] theorem Part.setSlot_pathLimits (p : Part) (r : Role) (x : Slot) : (p.setSlot r x).pathLimits = p.pathLimits := rfl
@[simp] theorem Part.setSlot_pathTuning (p : Part) (r : Role) (x : Slot) : (p.setSlot r x).pathTuning = p.pathTuning := rfl
@[simp] theorem Part.setSlot_defrost (p : Part) (r : Role) (x : Slot) : (p.setSlot r x).defrost = p.defrost := rfl
@[simp] theorem Part.setSlot_defrostSet (p : Part) (r : Role) (x : Slot) : (p.setSlot r x).defrostSet = p.defrostSet := rfl
@[simp] theorem Part.setSlot_intervals (p : Part) (r : Role) (x : Slot) : (p.setSlot r x).intervals = p.intervals := rfl
@[simp] theorem Part.setSlot_doors (p : Part) (r : Role) (x : Slot) : (p.setSlot r x).doors = p.doors := rfl
@[simp] theorem Part.setSlot_doorSet (p : Part) (r : Role) (x : Slot) : (p.setSlot r x).doorSet = p.doorSet := rfl
@[simp] theorem Part.setSlot_driveMap (p : Part) (r : Role) (x : Slot) : (p.setSlot r x).driveMap = p.driveMap := rfl
@[simp] theorem Part.setSlot_interlock (p : Part) (r : Role) (x : Slot) : (p.setSlot r x).interlock = p.interlock := rfl
@[simp] theorem Part.setSlot_compStop (p : Part) (r : Role) (x : Slot) : (p.setSlot r x).compStop = p.compStop := rfl
@[simp] theorem Part.setSlot_heaterOff (p : Part) (r : Role) (x : Slot) : (p.setSlot r x).heaterOff = p.heaterOff := rfl
@[simp] theorem Part.setSlot_offCycle (p : Part) (r : Role) (x : Slot) : (p.setSlot r x).offCycle = p.offCycle := rfl
@[simp] theorem Part.setSlot_damper (p : Part) (r : Role) (x : Slot) : (p.setSlot r x).damper = p.damper := rfl
@[simp] theorem Part.setSlot_deviation (p : Part) (r : Role) (x : Slot) : (p.setSlot r x).deviation = p.deviation := rfl
@[simp] theorem Part.setSlot_trip (p : Part) (r : Role) (x : Slot) : (p.setSlot r x).trip = p.trip := rfl
@[simp] theorem Part.setSlot_tripSet (p : Part) (r : Role) (x : Slot) : (p.setSlot r x).tripSet = p.tripSet := rfl
@[simp] theorem Part.setSlot_line (p : Part) (r : Role) (x : Slot) : (p.setSlot r x).line = p.line := rfl
@[simp] theorem Part.setSlot_egress (p : Part) (r : Role) (x : Slot) : (p.setSlot r x).egress = p.egress := rfl
@[simp] theorem Part.setSlot_mtx (p : Part) (r : Role) (x : Slot) : (p.setSlot r x).mtx = p.mtx := rfl
@[simp] theorem Part.setSlot_tables (p : Part) (r : Role) (x : Slot) : (p.setSlot r x).tables = p.tables := rfl
@[simp] theorem Part.setSlot_load (p : Part) (r : Role) (x : Slot) : (p.setSlot r x).load = p.load := rfl
@[simp] theorem Part.setSlot_lockLevel (p : Part) (r : Role) (x : Slot) : (p.setSlot r x).lockLevel = p.lockLevel := rfl
@[simp] theorem Part.setSlot_lockWritten (p : Part) (r : Role) (x : Slot) : (p.setSlot r x).lockWritten = p.lockWritten := rfl
@[simp] theorem Part.setSlot_flags (p : Part) (r : Role) (x : Slot) : (p.setSlot r x).flags = p.flags := rfl
@[simp] theorem Part.setSlot_mask (p : Part) (r : Role) (x : Slot) : (p.setSlot r x).mask = p.mask := rfl
@[simp] theorem Part.setSlot_details (p : Part) (r : Role) (x : Slot) : (p.setSlot r x).details = p.details := rfl
@[simp] theorem Part.setSlot_refusal (p : Part) (r : Role) (x : Slot) : (p.setSlot r x).refusal = p.refusal := rfl
@[simp] theorem Part.setSlot_refusals (p : Part) (r : Role) (x : Slot) : (p.setSlot r x).refusals = p.refusals := rfl
@[simp] theorem Part.setSlot_restartPending (p : Part) (r : Role) (x : Slot) : (p.setSlot r x).restartPending = p.restartPending := rfl
@[simp] theorem Part.setSlot_choices (p : Part) (r : Role) (x : Slot) : (p.setSlot r x).choices = p.choices := rfl

@[simp] theorem Part.raise_mode (p : Part) (f : Flag) : (p.raise f).mode = p.mode := rfl
@[simp] theorem Part.raise_origin (p : Part) (f : Flag) : (p.raise f).origin = p.origin := rfl
@[simp] theorem Part.raise_seconds (p : Part) (f : Flag) : (p.raise f).seconds = p.seconds := rfl
@[simp] theorem Part.raise_points (p : Part) (f : Flag) : (p.raise f).points = p.points := rfl
@[simp] theorem Part.raise_pointSet (p : Part) (f : Flag) : (p.raise f).pointSet = p.pointSet := rfl
@[simp] theorem Part.raise_activeMap (p : Part) (f : Flag) : (p.raise f).activeMap = p.activeMap := rfl
@[simp] theorem Part.raise_comps (p : Part) (f : Flag) : (p.raise f).comps = p.comps := rfl
@[simp] theorem Part.raise_path (p : Part) (f : Flag) : (p.raise f).path = p.path := rfl
@[simp] theorem Part.raise_pathLimits (p : Part) (f : Flag) : (p.raise f).pathLimits = p.pathLimits := rfl
@[simp] theorem Part.raise_pathTuning (p : Part) (f : Flag) : (p.raise f).pathTuning = p.pathTuning := rfl
@[simp] theorem Part.raise_defrost (p : Part) (f : Flag) : (p.raise f).defrost = p.defrost := rfl
@[simp] theorem Part.raise_defrostSet (p : Part) (f : Flag) : (p.raise f).defrostSet = p.defrostSet := rfl
@[simp] theorem Part.raise_intervals (p : Part) (f : Flag) : (p.raise f).intervals = p.intervals := rfl
@[simp] theorem Part.raise_doors (p : Part) (f : Flag) : (p.raise f).doors = p.doors := rfl
@[simp] theorem Part.raise_doorSet (p : Part) (f : Flag) : (p.raise f).doorSet = p.doorSet := rfl
@[simp] theorem Part.raise_slots (p : Part) (f : Flag) : (p.raise f).slots = p.slots := rfl
@[simp] theorem Part.raise_driveMap (p : Part) (f : Flag) : (p.raise f).driveMap = p.driveMap := rfl
@[simp] theorem Part.raise_interlock (p : Part) (f : Flag) : (p.raise f).interlock = p.interlock := rfl
@[simp] theorem Part.raise_compStop (p : Part) (f : Flag) : (p.raise f).compStop = p.compStop := rfl
@[simp] theorem Part.raise_heaterOff (p : Part) (f : Flag) : (p.raise f).heaterOff = p.heaterOff := rfl
@[simp] theorem Part.raise_offCycle (p : Part) (f : Flag) : (p.raise f).offCycle = p.offCycle := rfl
@[simp] theorem Part.raise_damper (p : Part) (f : Flag) : (p.raise f).damper = p.damper := rfl
@[simp] theorem Part.raise_deviation (p : Part) (f : Flag) : (p.raise f).deviation = p.deviation := rfl
@[simp] theorem Part.raise_trip (p : Part) (f : Flag) : (p.raise f).trip = p.trip := rfl
@[simp] theorem Part.raise_tripSet (p : Part) (f : Flag) : (p.raise f).tripSet = p.tripSet := rfl
@[simp] theorem Part.raise_line (p : Part) (f : Flag) : (p.raise f).line = p.line := rfl
@[simp] theorem Part.raise_egress (p : Part) (f : Flag) : (p.raise f).egress = p.egress := rfl
@[simp] theorem Part.raise_mtx (p : Part) (f : Flag) : (p.raise f).mtx = p.mtx := rfl
@[simp] theorem Part.raise_tables (p : Part) (f : Flag) : (p.raise f).tables = p.tables := rfl
@[simp] theorem Part.raise_load (p : Part) (f : Flag) : (p.raise f).load = p.load := rfl
@[simp] theorem Part.raise_lockLevel (p : Part) (f : Flag) : (p.raise f).lockLevel = p.lockLevel := rfl
@[simp] theorem Part.raise_lockWritten (p : Part) (f : Flag) : (p.raise f).lockWritten = p.lockWritten := rfl
@[simp] theorem Part.raise_mask (p : Part) (f : Flag) : (p.raise f).mask = p.mask := rfl
@[simp] theorem Part.raise_details (p : Part) (f : Flag) : (p.raise f).details = p.details := rfl
@[simp] theorem Part.raise_refusal (p : Part) (f : Flag) : (p.raise f).refusal = p.refusal := rfl
@[simp] theorem Part.raise_refusals (p : Part) (f : Flag) : (p.raise f).refusals = p.refusals := rfl
@[simp] theorem Part.raise_restartPending (p : Part) (f : Flag) : (p.raise f).restartPending = p.restartPending := rfl
@[simp] theorem Part.raise_choices (p : Part) (f : Flag) : (p.raise f).choices = p.choices := rfl

@[simp] theorem Part.placeSpeed_mode (p : Part) (v : Nat) : (p.placeSpeed v).mode = p.mode := rfl
@[simp] theorem Part.placeSpeed_origin (p : Part) (v : Nat) : (p.placeSpeed v).origin = p.origin := rfl
@[simp] theorem Part.placeSpeed_seconds (p : Part) (v : Nat) : (p.placeSpeed v).seconds = p.seconds := rfl
@[simp] theorem Part.placeSpeed_points (p : Part) (v : Nat) : (p.placeSpeed v).points = p.points := rfl
@[simp] theorem Part.placeSpeed_pointSet (p : Part) (v : Nat) : (p.placeSpeed v).pointSet = p.pointSet := rfl
@[simp] theorem Part.placeSpeed_activeMap (p : Part) (v : Nat) : (p.placeSpeed v).activeMap = p.activeMap := rfl
@[simp] theorem Part.placeSpeed_comps (p : Part) (v : Nat) : (p.placeSpeed v).comps = p.comps := rfl
@[simp] theorem Part.placeSpeed_pathLimits (p : Part) (v : Nat) : (p.placeSpeed v).pathLimits = p.pathLimits := rfl
@[simp] theorem Part.placeSpeed_pathTuning (p : Part) (v : Nat) : (p.placeSpeed v).pathTuning = p.pathTuning := rfl
@[simp] theorem Part.placeSpeed_defrost (p : Part) (v : Nat) : (p.placeSpeed v).defrost = p.defrost := rfl
@[simp] theorem Part.placeSpeed_defrostSet (p : Part) (v : Nat) : (p.placeSpeed v).defrostSet = p.defrostSet := rfl
@[simp] theorem Part.placeSpeed_intervals (p : Part) (v : Nat) : (p.placeSpeed v).intervals = p.intervals := rfl
@[simp] theorem Part.placeSpeed_doors (p : Part) (v : Nat) : (p.placeSpeed v).doors = p.doors := rfl
@[simp] theorem Part.placeSpeed_doorSet (p : Part) (v : Nat) : (p.placeSpeed v).doorSet = p.doorSet := rfl
@[simp] theorem Part.placeSpeed_slots (p : Part) (v : Nat) : (p.placeSpeed v).slots = p.slots := rfl
@[simp] theorem Part.placeSpeed_driveMap (p : Part) (v : Nat) : (p.placeSpeed v).driveMap = p.driveMap := rfl
@[simp] theorem Part.placeSpeed_interlock (p : Part) (v : Nat) : (p.placeSpeed v).interlock = p.interlock := rfl
@[simp] theorem Part.placeSpeed_compStop (p : Part) (v : Nat) : (p.placeSpeed v).compStop = p.compStop := rfl
@[simp] theorem Part.placeSpeed_heaterOff (p : Part) (v : Nat) : (p.placeSpeed v).heaterOff = p.heaterOff := rfl
@[simp] theorem Part.placeSpeed_offCycle (p : Part) (v : Nat) : (p.placeSpeed v).offCycle = p.offCycle := rfl
@[simp] theorem Part.placeSpeed_damper (p : Part) (v : Nat) : (p.placeSpeed v).damper = p.damper := rfl
@[simp] theorem Part.placeSpeed_deviation (p : Part) (v : Nat) : (p.placeSpeed v).deviation = p.deviation := rfl
@[simp] theorem Part.placeSpeed_trip (p : Part) (v : Nat) : (p.placeSpeed v).trip = p.trip := rfl
@[simp] theorem Part.placeSpeed_tripSet (p : Part) (v : Nat) : (p.placeSpeed v).tripSet = p.tripSet := rfl
@[simp] theorem Part.placeSpeed_line (p : Part) (v : Nat) : (p.placeSpeed v).line = p.line := rfl
@[simp] theorem Part.placeSpeed_egress (p : Part) (v : Nat) : (p.placeSpeed v).egress = p.egress := rfl
@[simp] theorem Part.placeSpeed_mtx (p : Part) (v : Nat) : (p.placeSpeed v).mtx = p.mtx := rfl
@[simp] theorem Part.placeSpeed_tables (p : Part) (v : Nat) : (p.placeSpeed v).tables = p.tables := rfl
@[simp] theorem Part.placeSpeed_load (p : Part) (v : Nat) : (p.placeSpeed v).load = p.load := rfl
@[simp] theorem Part.placeSpeed_lockLevel (p : Part) (v : Nat) : (p.placeSpeed v).lockLevel = p.lockLevel := rfl
@[simp] theorem Part.placeSpeed_lockWritten (p : Part) (v : Nat) : (p.placeSpeed v).lockWritten = p.lockWritten := rfl
@[simp] theorem Part.placeSpeed_flags (p : Part) (v : Nat) : (p.placeSpeed v).flags = p.flags := rfl
@[simp] theorem Part.placeSpeed_mask (p : Part) (v : Nat) : (p.placeSpeed v).mask = p.mask := rfl
@[simp] theorem Part.placeSpeed_details (p : Part) (v : Nat) : (p.placeSpeed v).details = p.details := rfl
@[simp] theorem Part.placeSpeed_refusal (p : Part) (v : Nat) : (p.placeSpeed v).refusal = p.refusal := rfl
@[simp] theorem Part.placeSpeed_refusals (p : Part) (v : Nat) : (p.placeSpeed v).refusals = p.refusals := rfl
@[simp] theorem Part.placeSpeed_restartPending (p : Part) (v : Nat) : (p.placeSpeed v).restartPending = p.restartPending := rfl
@[simp] theorem Part.placeSpeed_choices (p : Part) (v : Nat) : (p.placeSpeed v).choices = p.choices := rfl

@[simp] theorem Part.recordRefusal_mode (p : Part) (code dest : Byte) (st : Status) : (p.recordRefusal code dest st).mode = p.mode := rfl
@[simp] theorem Part.recordRefusal_origin (p : Part) (code dest : Byte) (st : Status) : (p.recordRefusal code dest st).origin = p.origin := rfl
@[simp] theorem Part.recordRefusal_seconds (p : Part) (code dest : Byte) (st : Status) : (p.recordRefusal code dest st).seconds = p.seconds := rfl
@[simp] theorem Part.recordRefusal_points (p : Part) (code dest : Byte) (st : Status) : (p.recordRefusal code dest st).points = p.points := rfl
@[simp] theorem Part.recordRefusal_pointSet (p : Part) (code dest : Byte) (st : Status) : (p.recordRefusal code dest st).pointSet = p.pointSet := rfl
@[simp] theorem Part.recordRefusal_activeMap (p : Part) (code dest : Byte) (st : Status) : (p.recordRefusal code dest st).activeMap = p.activeMap := rfl
@[simp] theorem Part.recordRefusal_comps (p : Part) (code dest : Byte) (st : Status) : (p.recordRefusal code dest st).comps = p.comps := rfl
@[simp] theorem Part.recordRefusal_path (p : Part) (code dest : Byte) (st : Status) : (p.recordRefusal code dest st).path = p.path := rfl
@[simp] theorem Part.recordRefusal_pathLimits (p : Part) (code dest : Byte) (st : Status) : (p.recordRefusal code dest st).pathLimits = p.pathLimits := rfl
@[simp] theorem Part.recordRefusal_pathTuning (p : Part) (code dest : Byte) (st : Status) : (p.recordRefusal code dest st).pathTuning = p.pathTuning := rfl
@[simp] theorem Part.recordRefusal_defrost (p : Part) (code dest : Byte) (st : Status) : (p.recordRefusal code dest st).defrost = p.defrost := rfl
@[simp] theorem Part.recordRefusal_defrostSet (p : Part) (code dest : Byte) (st : Status) : (p.recordRefusal code dest st).defrostSet = p.defrostSet := rfl
@[simp] theorem Part.recordRefusal_intervals (p : Part) (code dest : Byte) (st : Status) : (p.recordRefusal code dest st).intervals = p.intervals := rfl
@[simp] theorem Part.recordRefusal_doors (p : Part) (code dest : Byte) (st : Status) : (p.recordRefusal code dest st).doors = p.doors := rfl
@[simp] theorem Part.recordRefusal_doorSet (p : Part) (code dest : Byte) (st : Status) : (p.recordRefusal code dest st).doorSet = p.doorSet := rfl
@[simp] theorem Part.recordRefusal_slots (p : Part) (code dest : Byte) (st : Status) : (p.recordRefusal code dest st).slots = p.slots := rfl
@[simp] theorem Part.recordRefusal_driveMap (p : Part) (code dest : Byte) (st : Status) : (p.recordRefusal code dest st).driveMap = p.driveMap := rfl
@[simp] theorem Part.recordRefusal_interlock (p : Part) (code dest : Byte) (st : Status) : (p.recordRefusal code dest st).interlock = p.interlock := rfl
@[simp] theorem Part.recordRefusal_compStop (p : Part) (code dest : Byte) (st : Status) : (p.recordRefusal code dest st).compStop = p.compStop := rfl
@[simp] theorem Part.recordRefusal_heaterOff (p : Part) (code dest : Byte) (st : Status) : (p.recordRefusal code dest st).heaterOff = p.heaterOff := rfl
@[simp] theorem Part.recordRefusal_offCycle (p : Part) (code dest : Byte) (st : Status) : (p.recordRefusal code dest st).offCycle = p.offCycle := rfl
@[simp] theorem Part.recordRefusal_damper (p : Part) (code dest : Byte) (st : Status) : (p.recordRefusal code dest st).damper = p.damper := rfl
@[simp] theorem Part.recordRefusal_deviation (p : Part) (code dest : Byte) (st : Status) : (p.recordRefusal code dest st).deviation = p.deviation := rfl
@[simp] theorem Part.recordRefusal_trip (p : Part) (code dest : Byte) (st : Status) : (p.recordRefusal code dest st).trip = p.trip := rfl
@[simp] theorem Part.recordRefusal_tripSet (p : Part) (code dest : Byte) (st : Status) : (p.recordRefusal code dest st).tripSet = p.tripSet := rfl
@[simp] theorem Part.recordRefusal_line (p : Part) (code dest : Byte) (st : Status) : (p.recordRefusal code dest st).line = p.line := rfl
@[simp] theorem Part.recordRefusal_egress (p : Part) (code dest : Byte) (st : Status) : (p.recordRefusal code dest st).egress = p.egress := rfl
@[simp] theorem Part.recordRefusal_mtx (p : Part) (code dest : Byte) (st : Status) : (p.recordRefusal code dest st).mtx = p.mtx := rfl
@[simp] theorem Part.recordRefusal_tables (p : Part) (code dest : Byte) (st : Status) : (p.recordRefusal code dest st).tables = p.tables := rfl
@[simp] theorem Part.recordRefusal_load (p : Part) (code dest : Byte) (st : Status) : (p.recordRefusal code dest st).load = p.load := rfl
@[simp] theorem Part.recordRefusal_lockLevel (p : Part) (code dest : Byte) (st : Status) : (p.recordRefusal code dest st).lockLevel = p.lockLevel := rfl
@[simp] theorem Part.recordRefusal_lockWritten (p : Part) (code dest : Byte) (st : Status) : (p.recordRefusal code dest st).lockWritten = p.lockWritten := rfl
@[simp] theorem Part.recordRefusal_flags (p : Part) (code dest : Byte) (st : Status) : (p.recordRefusal code dest st).flags = p.flags := rfl
@[simp] theorem Part.recordRefusal_mask (p : Part) (code dest : Byte) (st : Status) : (p.recordRefusal code dest st).mask = p.mask := rfl
@[simp] theorem Part.recordRefusal_details (p : Part) (code dest : Byte) (st : Status) : (p.recordRefusal code dest st).details = p.details := rfl
@[simp] theorem Part.recordRefusal_restartPending (p : Part) (code dest : Byte) (st : Status) : (p.recordRefusal code dest st).restartPending = p.restartPending := rfl
@[simp] theorem Part.recordRefusal_choices (p : Part) (code dest : Byte) (st : Status) : (p.recordRefusal code dest st).choices = p.choices := rfl

@[simp] theorem Part.setSlot_slot_self (p : Part) (r : Role) (x : Slot) : (p.setSlot r x).slot r = x :=
  Roles.get_set_self _ _ _

theorem Part.setSlot_slot_other (p : Part) {r q : Role} (x : Slot) (h : q ≠ r) :
    (p.setSlot r x).slot q = p.slot q := Roles.get_set_other _ _ h

@[simp] theorem Part.setDoor_door_self (p : Part) (d : DoorId) (x : DoorRec) : (p.setDoor d x).door d = x :=
  Doors.get_set_self _ _ _

theorem Part.setDoor_door_other (p : Part) {d e : DoorId} (x : DoorRec) (h : e ≠ d) :
    (p.setDoor d x).door e = p.door e := Doors.get_set_other _ _ h

@[simp] theorem Part.setPoint_point_self (p : Part) (i : PointId) (x : Point) : (p.setPoint i x).point i = x := by
  simp [Part.setPoint, Part.point]

theorem Part.setPoint_point_other (p : Part) {i j : PointId} (x : Point) (h : j ≠ i) :
    (p.setPoint i x).point j = p.point j := by
  simp only [Part.setPoint, Part.point]
  exact Vector.getElem_set_ne _ _ (fun e => h (Fin.ext e.symm))

@[simp] theorem Part.setTable_table_self (p : Part) (t : TableId) (x : Table) : (p.setTable t x).table t = x := by
  simp [Part.setTable, Part.table]

theorem Part.setTable_table_other (p : Part) {t u : TableId} (x : Table) (h : u ≠ t) :
    (p.setTable t x).table u = p.table u := by
  simp only [Part.setTable, Part.table]
  exact Vector.getElem_set_ne _ _ (fun e => h (Fin.ext e.symm))

end Sys2Proof.Machine
end

