-- ==== Sys2Proof/Laws/Edge.lean ====
section
/-! SUPPORT. What the shared operations at the edge of the part can do: the egress queue, the last-refusal
record, the relay queue and the line arbiter. Each changes only what `Part.withEdge` names. -/

namespace Sys2Proof.Machine

/-- `q` differs from `p` only at the edge. -/
def EdgeOnly (p q : Part) : Prop := q = p.withEdge q

theorem EdgeOnly.refl (p : Part) : EdgeOnly p p := rfl

theorem EdgeOnly.trans {p q r : Part} (h : EdgeOnly p q) (k : EdgeOnly q r) : EdgeOnly p r := by
  unfold EdgeOnly at *
  rw [k, h]
  rfl

/-! ## Egress and refusals -/

/-- The eviction takes one frame of sort READINGS out and keeps the order of the others. -/
theorem evictReadings_sublist : ∀ {l m : List Egress}, evictReadings l = some m → m.Sublist l ∧ m.length + 1 = l.length
  | [], _, h => by simp [evictReadings] at h
  | e :: es, m, h => by
    unfold evictReadings at h
    split at h
    · cases h
      exact ⟨List.sublist_cons_self _ _, rfl⟩
    · split at h
      · cases h
      · rename_i es' he
        cases h
        obtain ⟨hs, hl⟩ := evictReadings_sublist he
        exact ⟨hs.cons_cons e, by simp [← hl]⟩

/-- What is not a READINGS frame survives the eviction. -/
theorem evictReadings_keeps : ∀ {l m : List Egress}, evictReadings l = some m →
    ∀ e ∈ l, e.sort ≠ .readings → e ∈ m
  | [], _, h => by simp [evictReadings] at h
  | a :: es, m, h => by
    intro e he hs
    unfold evictReadings at h
    split at h
    · cases h
      rcases List.mem_cons.1 he with rfl | he
      · contradiction
      · exact he
    · split at h
      · cases h
      · rename_i es' hm
        cases h
        rcases List.mem_cons.1 he with rfl | he
        · exact List.mem_cons_self
        · exact List.mem_cons_of_mem _ (evictReadings_keeps hm e he hs)

/-- A REPLY placed at the tail, placed after an eviction, or discarded with DROP raised (R192). -/
theorem placeReply_cases (p : Part) (e : Egress) :
    (p.egress.length < queueLimit ∧ p.placeReply e = { p with egress := p.egress ++ [e] }) ∨
    (queueLimit ≤ p.egress.length ∧
      ∃ l, evictReadings p.egress = some l ∧ p.placeReply e = { p with egress := l ++ [e] }) ∨
    (queueLimit ≤ p.egress.length ∧ evictReadings p.egress = none ∧ p.placeReply e = p.dropReply) := by
  unfold Part.placeReply
  by_cases h : p.egress.length < queueLimit
  · exact .inl ⟨h, by simp [h]⟩
  · cases hm : evictReadings p.egress with
    | none => exact .inr (.inr ⟨by omega, rfl, by simp [h]⟩)
    | some l => exact .inr (.inl ⟨by omega, l, rfl, by simp [h]⟩)

theorem placeReply_edge (p : Part) (e : Egress) : EdgeOnly p (p.placeReply e) := by
  unfold Part.placeReply EdgeOnly
  split
  · rfl
  · split <;> rfl

theorem reply_edge (p : Part) (code : Byte) (s : Status) (data : List Byte) :
    EdgeOnly p (p.reply code s data) := placeReply_edge _ _

theorem recordRefusal_edge (p : Part) (code dest : Byte) (s : Status) :
    EdgeOnly p (p.recordRefusal code dest s) := rfl

theorem relayReply_edge (p : Part) (f : Frame) (s : Status) (own : List Byte) :
    EdgeOnly p (p.relayReply f s own) := reply_edge _ _ _ _

theorem refuseRelay_edge (p : Part) (f : Frame) (s : Status) : EdgeOnly p (p.refuseRelay f s) :=
  (recordRefusal_edge p codeRelay f.dst s).trans (relayReply_edge _ _ _ _)

theorem absorb_edge (p : Part) (r : Role) (v : Nat) : EdgeOnly p (p.absorb r v).part := by
  unfold Part.absorb EdgeOnly
  split
  · rfl
  · split <;> rfl

theorem absorbRelay_edge (p : Part) (f : Frame) (r : Role) (v : Nat) : EdgeOnly p (p.absorbRelay f r v) := by
  unfold Part.absorbRelay
  dsimp only
  split
  · exact (absorb_edge p r v).trans (refuseRelay_edge _ _ _)
  · exact (absorb_edge p r v).trans (relayReply_edge _ _ _ _)

theorem queueRelay_edge (p : Part) (f : Frame) : EdgeOnly p (p.queueRelay f) := by
  unfold Part.queueRelay
  split
  · rfl
  · exact EdgeOnly.trans (q := p.dropRelay) rfl (refuseRelay_edge _ _ _)

/-! ## The line -/

theorem send_edge (p : Part) (f : Frame) (o : TxnOrigin) : EdgeOnly p (p.send f o) := rfl

theorem takeQueued_edge (p : Part) (f : Frame) (rest : List Frame) : EdgeOnly p (p.takeQueued f rest) := by
  unfold Part.takeQueued
  refine EdgeOnly.trans (q := { p with line.relay := rest, line.lastTaken := .relay }) rfl ?_
  dsimp only
  split
  · exact send_edge _ _ _
  · exact send_edge _ _ _
  · exact refuseRelay_edge _ _ _
  · exact absorbRelay_edge _ _ _ _

theorem take_edge (p : Part) (c : Candidate) : EdgeOnly p (p.take c) := by
  cases c with
  | slot r => exact send_edge _ _ _
  | relay f rest => exact takeQueued_edge _ _ _
  | poll n => rfl

theorem screenAll_edge (p : Part) : EdgeOnly p p.screenAll := rfl

theorem placeAsks_edge (p : Part) : EdgeOnly p p.placeAsks := by
  unfold Part.placeAsks
  split <;> rfl

/-- A step of the arbiter's loop. -/
theorem arbitrate_succ (n : Nat) (p : Part) :
    Part.arbitrate (n + 1) p =
      if p.line.state = .free then
        (match p.choose with | none => p | some c => Part.arbitrate n (p.take c).screenAll)
      else p := rfl

/-- An invariant that a take and the screening keep is kept by the arbiter. -/
theorem arbitrate_induct {P : Part → Prop}
    (step : ∀ p c, P p → p.line.state = .free → p.choose = some c → P (p.take c).screenAll) :
    ∀ n p, P p → P (Part.arbitrate n p)
  | 0, _, h => h
  | n + 1, p, h => by
    rw [arbitrate_succ]
    by_cases hf : p.line.state = .free
    · rw [if_pos hf]
      cases hc : p.choose with
      | none => exact h
      | some c => exact arbitrate_induct step n _ (step p c h hf hc)
    · rw [if_neg hf]
      exact h

/-- An invariant that the asks, the screening and every take keep is kept by the end of an event. -/
theorem settle_induct {P : Part → Prop} (asks : ∀ p, P p → P p.placeAsks) (screens : ∀ p, P p → P p.screenAll)
    (takes : ∀ p c, P p → p.line.state = .free → p.choose = some c → P (p.take c)) (p : Part) (h : P p) :
    P p.settle :=
  arbitrate_induct (fun q c hq hf hc => screens _ (takes q c hq hf hc)) _ _ (screens _ (asks _ h))

/-! ## The slots' records -/

theorem SlotsKept.refl (p : Part) : SlotsKept p p := fun _ => rfl

theorem SlotsKept.trans {p q r : Part} (h : SlotsKept p q) (k : SlotsKept q r) : SlotsKept p r :=
  fun x => (k x).trans (h x)

theorem placeAsks_slots (p : Part) : SlotsKept p p.placeAsks := by
  intro r
  unfold Part.placeAsks
  split
  · simp only [Part.slot, Roles.get_mapWith]
    split <;> rfl
  · rfl

theorem screenAll_slots (p : Part) : SlotsKept p p.screenAll := by
  intro r
  simp only [Part.screenAll, Part.slot, Roles.get_mapWith]
  rfl

theorem ask_record (p : Part) (r : Role) (v : Nat) : SlotsKept p (p.ask r v) := by
  intro x
  unfold Part.ask
  split
  · rfl
  · by_cases h : x = r
    · subst h; simp [Slot.record]
    · rw [Part.setSlot_slot_other _ _ h]

end Sys2Proof.Machine
end

