-- ==== Sys2Proof/Laws/Frames.lean ====
section
/-! SUPPORT. How long the part's frames are (R188): the bytes of each field, the data of every REPLY, the fields that
DOOR READ gives, and what placing and taking a frame keeps. -/

namespace Sys2Proof.Machine

/-! ## The bytes of a field -/

@[simp] theorem u8_length (n : Nat) : (u8 n).length = 1 := rfl
@[simp] theorem u16_length (n : Nat) : (u16 n).length = 2 := rfl
@[simp] theorem u32_length (n : Nat) : (u32 n).length = 4 := rfl
@[simp] theorem i16_length (v : Int) : (i16 v).length = 2 := rfl
@[simp] theorem markByte_length (b : Bool) : (markByte b).length = 1 := rfl
@[simp] theorem claimByte_length (b : Bool) : (claimByte b).length = 1 := rfl
@[simp] theorem optU8_length (x : Option Nat) : (optU8 x).length = 1 := by cases x <;> rfl
@[simp] theorem optU16_length (x : Option Nat) : (optU16 x).length = 2 := by cases x <;> rfl
@[simp] theorem optI16_length (x : Option Int) : (optI16 x).length = 2 := by cases x <;> rfl
@[simp] theorem optSecond_length (x : Option Second) : (optSecond x).length = 4 := by cases x <;> rfl
@[simp] theorem flagBytes_length (f : BitVec 12) : (flagBytes f).length = 2 := rfl
@[simp] theorem setBytes_length (l : List Bool) : (setBytes l).length = 2 := rfl
@[simp] theorem levelByte_length (d : DoorRec) : d.levelByte.length = 1 := rfl

/-- A field takes the bytes of its form. -/
theorem Form.write_length (f : Form) (v : Int) : (f.write v).length = f.size := by cases f <;> rfl

/-- An entry takes at most the bytes of its fields' forms. -/
theorem writeEntry_length : ∀ (fs : List Form) (vs : List Int), (writeEntry fs vs).length ≤ (fs.map Form.size).sum
  | [], _ => by simp [writeEntry]
  | _ :: _, [] => by simp [writeEntry]
  | f :: fs, v :: vs => by
    have := writeEntry_length fs vs
    simp [writeEntry, Form.write_length]
    omega

/-- Pieces that each take at most `n` bytes take together at most `n` for each. -/
theorem flatten_map_length {α β : Type} (f : α → List β) (n : Nat) (h : ∀ x, (f x).length ≤ n) :
    ∀ l : List α, ((l.map f).flatten).length ≤ l.length * n
  | [] => by simp
  | x :: l => by
    have := flatten_map_length f n h l
    have := h x
    simp only [List.map_cons, List.flatten_cons, List.length_append, List.length_cons, Nat.succ_mul]
    omega

/-! ## The fields that DOOR READ gives (R132) -/

/-- The fields kept are fields of the list in their order. -/
theorem keptFields_sublist (choice : Nat → Bool) : ∀ (room : Nat) (l : List (List Byte)),
    (keptFields choice room l).Sublist l
  | _, [] => List.Sublist.refl _
  | room, f :: fs => by
    unfold keptFields
    split
    · exact (keptFields_sublist choice _ fs).cons_cons f
    · exact (keptFields_sublist choice _ fs).cons f

/-- The fields kept find room. -/
theorem keptFields_length (choice : Nat → Bool) : ∀ (room : Nat) (l : List (List Byte)),
    (keptFields choice room l).flatten.length ≤ room
  | _, [] => Nat.zero_le _
  | room, f :: fs => by
    unfold keptFields
    split
    · rename_i h
      have := keptFields_length choice (room - f.length) fs
      have := h.2
      simp only [List.flatten_cons, List.length_append]
      omega
    · exact keptFields_length choice room fs

/-- What a door takes in the list of R132: 8 bytes, and 6 more while it is open. -/
theorem captureFields_length (p : Part) (d : DoorId) :
    (p.captureFields d).flatten.length = if (p.door d).isOpen then 14 else 8 := by
  by_cases h : (p.door d).isOpen = true <;> simp [Part.captureFields, h]

/-- A REPLY has room for the list of R132 exactly when every door is closed. -/
theorem captureList_fits (p : Part) :
    p.captureList.flatten.length ≤ replyRoom ↔ ∀ d, (p.door d).isOpen = false := by
  have all (P : DoorId → Prop) : (∀ d, P d) ↔ P .ffL ∧ P .ffR ∧ P .cd ∧ P .fz :=
    ⟨fun h => ⟨h _, h _, h _, h _⟩, fun ⟨a, b, c, d⟩ x => by cases x <;> assumption⟩
  rw [all]
  simp only [Part.captureList, allDoors, List.map_cons, List.map_nil, List.flatten_cons, List.flatten_nil,
    List.flatten_append, List.length_append, List.length_nil, captureFields_length, replyRoom]
  cases (p.door .ffL).isOpen <;> cases (p.door .ffR).isOpen <;> cases (p.door .cd).isOpen <;>
    cases (p.door .fz).isOpen <;> simp

/-- The whole of what DOOR READ can give: fields of the list in their order that a REPLY has room for, and the whole
list with every door closed. -/
theorem doorReadData_cases (p : Part) :
    ∃ given : List (List Byte), p.doorReadData = given.flatten ∧ given.Sublist p.captureList ∧
      given.flatten.length ≤ replyRoom ∧ ((∀ d, (p.door d).isOpen = false) → given = p.captureList) := by
  unfold Part.doorReadData
  dsimp only
  split
  · rename_i h
    exact ⟨_, rfl, List.Sublist.refl _, h, fun _ => rfl⟩
  · rename_i h
    exact ⟨_, rfl, keptFields_sublist _ _ _, keptFields_length _ _ _,
      fun hc => absurd ((captureList_fits p).2 hc) h⟩

/-! ## The data of a REPLY (R188) -/

/-- The data of an answer finds room in a REPLY. -/
def Answer.fits (r : Answer) : Prop := r.data.length ≤ replyRoom

theorem refuse_fits (p : Part) (s : Status) : (p.refuse s).fits := Nat.zero_le _

theorem accept_fits (p : Part) (data : List Byte) (h : data.length ≤ replyRoom) : (p.accept data).fits := h

theorem withComp_fits (p : Part) (b : Byte) (k : Comp → Answer) (h : ∀ c, (k c).fits) : (p.withComp b k).fits := by
  unfold Part.withComp
  split
  · exact refuse_fits _ _
  · exact h _

/-- What the common checks let pass fits when the request's own answer does. -/
theorem judge_fits {α : Type} (p : Part) (ex : Bool) (a : Args α) (act : α → Part → Answer)
    (h : ∀ x q, (act x q).fits) : (p.judge ex a act).fits := by
  unfold Part.judge
  split
  · exact refuse_fits _ _
  · split
    · exact refuse_fits _ _
    · exact h _ _

theorem identify_fits (p : Part) : (p.accept p.identifyData).fits := by
  simp [Answer.fits, Part.accept, Part.identifyData, Part.modeBytes, replyRoom]

theorem queryRequest_fits (a : QueryArgs) (p : Part) : (p.queryRequest a).fits := by
  unfold Part.queryRequest
  split
  · exact refuse_fits _ _
  · dsimp only
    split
    · apply accept_fits
      simp only [List.length_append, u8_length, pageBytes, pageSize, replyRoom, List.length_take]
      omega
    · exact refuse_fits _ _

theorem acceptMode_fits (p : Part) (m : Mode) (o : Option Origin) : (p.acceptMode m o).fits := by
  simp [Answer.fits, Part.acceptMode, Part.accept, Part.modeBytes, replyRoom]

theorem modeBytes_fits (p : Part) : (p.accept p.modeBytes).fits := by
  simp [Answer.fits, Part.accept, Part.modeBytes, replyRoom]

theorem decideMode_fits (p : Part) (t : ModeTarget) : (p.decideMode t).fits := by
  unfold Part.decideMode
  repeat' split
  all_goals first | exact refuse_fits _ _ | exact acceptMode_fits _ _ _ | exact modeBytes_fits _

theorem setModeRequest_fits (b : Byte) (p : Part) : (p.setModeRequest b).fits := by
  unfold Part.setModeRequest
  split
  · exact refuse_fits _ _
  · exact decideMode_fits _ _

theorem setLockRequest_fits (b : Byte) (p : Part) : (p.setLockRequest b).fits := by
  unfold Part.setLockRequest
  repeat' split
  all_goals exact Nat.zero_le _

theorem clearFaultsRequest_fits (x : Half) (p : Part) : (p.clearFaultsRequest x).fits := by
  unfold Part.clearFaultsRequest
  split
  · exact refuse_fits _ _
  · exact accept_fits _ _ (by simp [replyRoom])

theorem setMaskRequest_fits (x : Half) (p : Part) : (p.setMaskRequest x).fits := by
  unfold Part.setMaskRequest
  split <;> exact Nat.zero_le _

theorem doorReadRequest_fits (a : Unit) (p : Part) : (p.doorReadRequest a).fits := by
  obtain ⟨_, he, _, hl, _⟩ := doorReadData_cases p
  unfold Part.doorReadRequest
  exact accept_fits _ _ (he ▸ hl)

theorem tableOpenRequest_fits (a : TableOpenArgs) (p : Part) : (p.tableOpenRequest a).fits := by
  unfold Part.tableOpenRequest
  repeat' split
  all_goals exact Nat.zero_le _

theorem tableDataRequest_fits (a : TableDataArgs) (p : Part) : (p.tableDataRequest a).fits := by
  unfold Part.tableDataRequest
  repeat' split
  all_goals first | exact refuse_fits _ _ | exact accept_fits _ _ (by simp [replyRoom])

theorem tableCloseRequest_fits (b : Byte) (p : Part) : (p.tableCloseRequest b).fits := by
  unfold Part.tableCloseRequest
  split
  · exact refuse_fits _ _
  · simp [Answer.fits, replyRoom]

theorem tableAbortRequest_fits (b : Byte) (p : Part) : (p.tableAbortRequest b).fits := by
  unfold Part.tableAbortRequest
  split <;> exact Nat.zero_le _

theorem entriesFrom_length (count : Nat) (t : Table) : ∀ n i, (entriesFrom count t n i).length = n
  | 0, _ => rfl
  | n + 1, _ => by simp [entriesFrom, entriesFrom_length count t n]

theorem tableReadRequest_fits (a : TableReadArgs) (p : Part) : (p.tableReadRequest a).fits := by
  unfold Part.tableReadRequest
  split
  · exact refuse_fits _ _
  · rename_i t _
    split
    · exact refuse_fits _ _
    · rename_i h
      have hl := flatten_map_length _ _ (writeEntry_length (tableForms t))
        (entriesFrom (entryCount t) (p.table t) a.count.toNat a.start.toNat)
      rw [entriesFrom_length] at hl
      have : a.count.toNat * ((tableForms t).map Form.size).sum ≤ 35 := Nat.not_lt.1 fun x => h (.inr (.inr x))
      apply accept_fits
      simp only [List.length_append, u8_length, replyRoom]
      omega

/-- Every reply to SWAP MAP fits, refused or not. -/
theorem swapDress_fits (r : Answer) : (swapDress r).fits := by
  simp [Answer.fits, swapDress, Part.mapBytes, replyRoom]

theorem setSetpointRequest_fits (a : SetpointArgs) (p : Part) : (p.setSetpointRequest a).fits :=
  withComp_fits _ _ _ fun _ => by simp [Answer.fits, replyRoom]

theorem pushRequest_fits (a : PushArgs) (p : Part) : (p.pushRequest a).fits := by
  refine withComp_fits _ _ _ fun c => ?_
  repeat' split
  all_goals first | exact refuse_fits _ _ | exact accept_fits _ _ (by simp [Part.stackBytes, replyRoom])

theorem popRequest_fits (b : Byte) (p : Part) : (p.popRequest b).fits := by
  refine withComp_fits _ _ _ fun c => ?_
  split
  · exact refuse_fits _ _
  · exact accept_fits _ _ (by simp [Part.stackBytes, replyRoom])

theorem clearTargets_length {b : Byte} {l : List Comp} (h : clearTargets b = some l) : l.length ≤ 3 := by
  unfold clearTargets at h
  split at h
  · cases h; exact Nat.le_refl 3
  · cases hc : compOf b with
    | none => simp [hc] at h
    | some c => rw [hc] at h; cases h; exact Nat.le_add_left 1 2

theorem clearRequest_fits (b : Byte) (p : Part) : (p.clearRequest b).fits := by
  unfold Part.clearRequest
  split
  · exact refuse_fits _ _
  · rename_i l h
    have := clearTargets_length h
    dsimp only
    apply accept_fits
    have := flatten_map_length (fun c =>
      i16 ((p.compsTake fun c r => if l.contains c then r.clearStack p.active else r).comp c).effective) 2
      (fun _ => Nat.le_refl 2) l
    simp only [replyRoom]
    omega

theorem injectRequest_fits (a : InjectArgs) (p : Part) : (p.injectRequest a).fits := by
  unfold Part.injectRequest
  repeat' split
  all_goals first | exact refuse_fits _ _ | exact accept_fits _ _ (by simp [resolvedBytes, replyRoom])

theorem defrostStartRequest_fits (a : Unit) (p : Part) : (p.defrostStartRequest a).fits := by
  unfold Part.defrostStartRequest
  split <;> simp [Answer.fits, Part.accept, Part.refuse, Part.dueBytes, replyRoom]

theorem defrostHoldRequest_fits (a : Unit) (p : Part) : (p.defrostHoldRequest a).fits := by
  unfold Part.defrostHoldRequest
  repeat' split
  all_goals first | exact refuse_fits _ _ | exact accept_fits _ _ (by simp [Part.heatBytes, replyRoom])

theorem defrostResumeRequest_fits (a : Unit) (p : Part) : (p.defrostResumeRequest a).fits := by
  unfold Part.defrostResumeRequest
  split
  · exact refuse_fits _ _
  · exact accept_fits _ _ (by simp [Part.heatBytes, replyRoom])

theorem loadShedRequest_fits (b : Byte) (p : Part) : (p.loadShedRequest b).fits := by
  unfold Part.loadShedRequest
  split
  · exact refuse_fits _ _
  · exact accept_fits _ _ (by simp [replyRoom])

theorem causeBytes_length (c : Option Cause) (t : Option Second) (l : Causes) : (causeBytes c t l).length = 7 := by
  simp [causeBytes]

theorem tripRequest_fits (a : Unit) (p : Part) : (p.tripRequest a).fits := by
  unfold Part.tripRequest
  split
  · exact refuse_fits _ _
  · exact accept_fits _ _ (by simp [causeBytes_length, replyRoom])

theorem rearmRequest_fits (a : Unit) (p : Part) : (p.rearmRequest a).fits := by
  unfold Part.rearmRequest
  split
  · exact refuse_fits _ _
  · exact accept_fits _ _ (by simp [causeBytes_length, replyRoom])

/-- The block's own data about an absorbed frame (R157) leave room for the node and the kind (R183). -/
theorem absorb_length (p : Part) (r : Role) (v : Nat) : (p.absorb r v).data.length ≤ 5 := by
  unfold Part.absorb
  repeat' split
  all_goals simp [Part.refuse]

/-! ## Frames placed and taken -/

/-- Frames that fit stay so while only the blocks behind the links change. -/
theorem framesFit_of_eq {p q : Part} (he : q.egress = p.egress) (hm : q.mtx = p.mtx)
    (hr : q.line.relay = p.line.relay) (ht : q.line.txn = p.line.txn) (h : p.framesFit) : q.framesFit := by
  unfold Part.framesFit
  rw [he, hm, hr, ht]
  exact h

/-- Placing a REPLY or a relayed reply that fits keeps the frames fitting (R192). -/
theorem placeReply_framesFit (p : Part) (e : Egress) (he : e.frame.payload.length ≤ 40) (h : p.framesFit) :
    (p.placeReply e).framesFit := by
  have tail : ∀ l : List Egress, (∀ x, x ∈ l → x.frame.payload.length ≤ 40) →
      ({ p with egress := l ++ [e] } : Part).framesFit := fun l hl => by
    refine ⟨fun x hx => ?_, h.2⟩
    rcases List.mem_append.1 hx with hx | hx
    · exact hl x hx
    · exact List.mem_singleton.1 hx ▸ he
  rcases placeReply_cases p e with ⟨_, hp⟩ | ⟨_, l, hl, hp⟩ | ⟨_, _, hp⟩ <;> rw [hp]
  · exact tail _ h.1
  · exact tail _ fun x hx => h.1 x ((evictReadings_sublist hl).1.subset hx)
  · exact framesFit_of_eq rfl rfl rfl rfl h

/-- A REPLY has 3 bytes before its data. -/
theorem reply_framesFit (p : Part) (code : Byte) (s : Status) (data : List Byte) (hd : data.length ≤ replyRoom)
    (h : p.framesFit) : (p.reply code s data).framesFit := by
  refine placeReply_framesFit _ _ ?_ h
  unfold replyRoom at hd
  simp only [Part.replyFrame, List.length_cons, List.length_append, markByte_length]
  omega

theorem finish_framesFit (r : Answer) (code : Byte) (hr : r.fits) (h : r.part.framesFit) :
    (r.finish code).framesFit := by
  unfold Answer.finish
  split
  · exact reply_framesFit _ _ _ _ hr h
  · exact reply_framesFit _ _ _ _ hr (framesFit_of_eq rfl rfl rfl rfl h)

theorem relayReply_framesFit (p : Part) (f : Frame) (s : Status) (own : List Byte) (ho : own.length ≤ 35)
    (h : p.framesFit) : (p.relayReply f s own).framesFit :=
  reply_framesFit _ _ _ _ (by simp only [List.length_cons, replyRoom]; omega) h

theorem refuseRelay_framesFit (p : Part) (f : Frame) (s : Status) (h : p.framesFit) :
    (p.refuseRelay f s).framesFit :=
  relayReply_framesFit _ _ _ _ (Nat.zero_le _) (framesFit_of_eq rfl rfl rfl rfl h)

theorem absorb_framesFit (p : Part) (r : Role) (v : Nat) (h : p.framesFit) : (p.absorb r v).part.framesFit := by
  unfold Part.absorb
  repeat' split
  all_goals exact framesFit_of_eq rfl rfl rfl rfl h

theorem absorbRelay_framesFit (p : Part) (f : Frame) (r : Role) (v : Nat) (h : p.framesFit) :
    (p.absorbRelay f r v).framesFit := by
  unfold Part.absorbRelay
  dsimp only
  split
  · exact refuseRelay_framesFit _ _ _ (absorb_framesFit _ _ _ h)
  · exact relayReply_framesFit _ _ _ _ (by have := absorb_length p r v; omega) (absorb_framesFit _ _ _ h)

/-- A frame that fits goes out as the transaction in flight. -/
theorem send_framesFit (p : Part) (f : Frame) (o : TxnOrigin) (hf : f.payload.length ≤ 40) (h : p.framesFit) :
    (p.send f o).framesFit :=
  ⟨h.1, h.2.1, h.2.2.1, fun _ hx => by cases hx; exact hf⟩

/-- Taking the head of the relay queue keeps the frames fitting (R184). -/
theorem takeQueued_framesFit (p : Part) (f : Frame) (rest : List Frame) (hq : p.line.relay = f :: rest)
    (h : p.framesFit) : (p.takeQueued f rest).framesFit := by
  have hf : f.payload.length ≤ 40 := h.2.2.1 f (hq ▸ List.mem_cons_self)
  have hp : ({ p with line.relay := rest, line.lastTaken := .relay } : Part).framesFit :=
    ⟨h.1, h.2.1, fun x hx => h.2.2.1 x (hq ▸ List.mem_cons_of_mem _ hx), h.2.2.2⟩
  unfold Part.takeQueued
  dsimp only
  split
  · exact send_framesFit _ _ _ hf hp
  · refine send_framesFit _ _ _ ?_ hp
    simp only [Part.screenedFrame, List.length_append, List.length_take, u16_length]
    omega
  · exact refuseRelay_framesFit _ _ _ hp
  · exact absorbRelay_framesFit _ _ _ _ hp

theorem pollFrame_length (n : Nat) : (pollFrame n).payload.length = 0 := rfl

theorem slotFrame_length (p : Part) (r : Role) : (p.slotFrame r).payload.length = 3 := rfl

/-- The relay frame that the arbiter chooses is the head of the queue (R180). -/
theorem choose_relay {p : Part} {f : Frame} {rest : List Frame} (h : p.choose = some (.relay f rest)) :
    p.line.relay = f :: rest := by
  unfold Part.choose at h
  repeat' split at h
  all_goals cases h <;> assumption

/-- The end of an event keeps the frames fitting. -/
theorem settle_framesFit (p : Part) (h : p.framesFit) : p.settle.framesFit := by
  refine settle_induct (fun q hq => ?_) (fun q hq => framesFit_of_eq rfl rfl rfl rfl hq) (fun q c hq _ hc => ?_) p h
  · unfold Part.placeAsks
    split
    · exact framesFit_of_eq rfl rfl rfl rfl hq
    · exact hq
  · cases c with
    | slot r => exact send_framesFit _ _ _ (by simp [slotFrame_length]) hq
    | relay f rest => exact takeQueued_framesFit _ _ _ (choose_relay hc) hq
    | poll n => exact send_framesFit _ _ _ (by simp [pollFrame_length]) (framesFit_of_eq rfl rfl rfl rfl hq)

/-! ## READINGS frames (R35) -/

theorem itemBytes_length (p : Part) (x : Item) : (p.itemBytes x).length ≤ 4 := by
  cases x <;> simp [Part.itemBytes]

theorem takeChannels_length (node : Nat) (ready : Bool) : ∀ (l : List ChannelEntry) (p : Part),
    (p.takeChannels node ready l).2.length = l.length
  | [], _ => rfl
  | _ :: l, _ => by simp [Part.takeChannels, takeChannels_length node ready l]

/-- A well-formed reply has at most 8 channels (R31). -/
theorem sampleOf_length {f : Frame} {s : Sample} (h : sampleOf f = some s) : s.entries.length ≤ 8 := by
  unfold sampleOf at h
  repeat' split at h
  all_goals first
    | contradiction
    | (rename_i hw
       cases h
       simp only [wellFormedEntries, Bool.and_eq_true, decide_eq_true_eq] at hw
       exact hw.1.1.2)

/-- A READINGS frame has at most 34 bytes of payload: the attention, the node, and 4 for each of at most 8 items. -/
theorem readingsFrame_length (p : Part) (node : Nat) (items : List Item) (h : items.length ≤ 8) :
    (p.readingsFrame node items).payload.length ≤ 34 := by
  have := flatten_map_length p.itemBytes 4 (itemBytes_length p) items
  simp only [Part.readingsFrame, List.length_append, markByte_length, u8_length]
  omega

end Sys2Proof.Machine
end

