-- ==== Sys2Proof/Laws/Inner.lean ====
section
/-! SUPPORT. What the operations of the regulating blocks can change. `PathOnly`: the path record, the defrost
record and the FF off-cycle, which is all that the path arbiter's operations reach. `InnerOnly`: besides these
the points, compartments, doors, flags, details and the count of open choices. -/

namespace Sys2Proof.Machine

/-- `q` differs from `p` only in the path record, the defrost record and the FF off-cycle. -/
def PathOnly (p q : Part) : Prop :=
  q = { p with path := q.path, defrost := q.defrost, offCycle := q.offCycle }

/-- `q` differs from `p` only inside the regulating blocks. -/
def InnerOnly (p q : Part) : Prop :=
  q = { p with
    points := q.points
    comps := q.comps
    path := q.path
    defrost := q.defrost
    offCycle := q.offCycle
    doors := q.doors
    flags := q.flags
    details := q.details
    choices := q.choices }

theorem PathOnly.refl (p : Part) : PathOnly p p := rfl

theorem PathOnly.after {p q r : Part} (k : PathOnly q r) (h : PathOnly p q) : PathOnly p r := by
  unfold PathOnly at *
  rw [k, h]

theorem PathOnly.trans {p q r : Part} (h : PathOnly p q) (k : PathOnly q r) : PathOnly p r := by
  unfold PathOnly at *
  rw [k, h]

theorem InnerOnly.refl (p : Part) : InnerOnly p p := rfl

theorem InnerOnly.after {p q r : Part} (k : InnerOnly q r) (h : InnerOnly p q) : InnerOnly p r := by
  unfold InnerOnly at *
  rw [k, h]

theorem InnerOnly.trans {p q r : Part} (h : InnerOnly p q) (k : InnerOnly q r) : InnerOnly p r := by
  unfold InnerOnly at *
  rw [k, h]

theorem PathOnly.inner {p q : Part} (h : PathOnly p q) : InnerOnly p q := by
  unfold PathOnly InnerOnly at *
  rw [h]

/-! ## The path arbiter -/

theorem placeSpeed_path (p : Part) (v : Nat) : PathOnly p (p.placeSpeed v) := rfl

theorem enqueue_path (p : Part) (k : Claimant) : PathOnly p (p.enqueue k) := rfl

theorem adoptValve_path (p : Part) : PathOnly p p.adoptValve := by
  unfold Part.adoptValve
  split <;> rfl

theorem dropHolder_path (p : Part) : PathOnly p p.dropHolder := rfl

theorem enterPrep_path (p : Part) : PathOnly p p.enterPrep := by
  unfold Part.enterPrep
  split <;> rfl

theorem startRun_path (p : Part) : PathOnly p p.startRun := rfl

theorem enterRun_path (p : Part) : PathOnly p p.enterRun := by
  unfold Part.enterRun
  dsimp only
  split <;> rfl

theorem startSwitch_path (p : Part) (v : Valve) : PathOnly p (p.startSwitch v) := rfl

theorem grant_path (p : Part) (k : Claimant) (rest : List Claimant) : PathOnly p (p.grant k rest) := by
  unfold Part.grant
  cases k <;> dsimp only
  · split
    · exact PathOnly.after (enterRun_path _) rfl
    · rfl
  · split
    · exact PathOnly.after (enterRun_path _) rfl
    · rfl
  · exact PathOnly.after (enterPrep_path _) rfl

theorem grantHead_path (p : Part) : PathOnly p p.grantHead := by
  unfold Part.grantHead
  split
  · rfl
  · exact grant_path _ _ _

theorem beginOffCycle_path (p : Part) : PathOnly p p.beginOffCycle := by
  unfold Part.beginOffCycle
  split <;> rfl

theorem leaveFF_path (p : Part) : PathOnly p p.leaveFF := by
  unfold Part.leaveFF
  split
  · exact beginOffCycle_path _
  · rfl

theorem release_path (p : Part) : PathOnly p p.release := by
  unfold Part.release
  split
  · rfl
  · rename_i k _
    dsimp only
    have h1 : PathOnly p p.leaveFF.dropHolder := (leaveFF_path p).trans (dropHolder_path _)
    have h2 : PathOnly p (if (p.path.claims.get k).raised = true then p.leaveFF.dropHolder.enqueue k
        else p.leaveFF.dropHolder) := by
      split
      · exact h1.trans (enqueue_path _ _)
      · exact h1
    split
    · exact h2.trans rfl
    · exact h2.trans (grant_path _ _ _)

theorem displace_path (p : Part) : PathOnly p p.displace := by
  unfold Part.displace
  split
  · exact grant_path _ _ _
  · rfl

theorem giveWay_path (p : Part) : PathOnly p p.giveWay := by
  unfold Part.giveWay
  split
  · split
    · dsimp only
      split
      · split
        · exact displace_path _
        · rfl
      · split
        · exact release_path _
        · split
          · exact release_path _
          · rfl
    · rfl
  · rfl

theorem withdrawHolder_path (p : Part) : PathOnly p p.withdrawHolder := by
  unfold Part.withdrawHolder
  split
  · exact release_path _
  · split
    · exact release_path _
    · split
      · exact release_path _
      · rfl
  · rfl

theorem handClaim_path (p : Part) (k : Claimant) (raised : Bool) (cls : Nat) :
    PathOnly p (p.handClaim k raised cls) := by
  unfold Part.handClaim
  dsimp only
  split
  · rfl
  · split
    · rfl
    · split
      · split
        · exact PathOnly.after (withdrawHolder_path _) rfl
        · split
          · exact PathOnly.after (giveWay_path _) rfl
          · rfl
      · split
        · split
          · exact PathOnly.after (giveWay_path _) rfl
          · split
            · exact PathOnly.after (grantHead_path _) rfl
            · exact PathOnly.after (giveWay_path _) rfl
        · rfl

theorem handFF_path (p : Part) (a b : Bool) : PathOnly p (p.handFF a b) := handClaim_path _ _ _ _

theorem handFZSources_path (p : Part) : PathOnly p p.handFZSources := handClaim_path _ _ _ _

theorem handFZ_path (p : Part) (a b : Bool) : PathOnly p (p.handFZ a b) :=
  PathOnly.after (handFZSources_path _) rfl

theorem handRecover_path (p : Part) (a : Bool) : PathOnly p (p.handRecover a) :=
  PathOnly.after (handFZSources_path _) rfl

theorem handDF_path (p : Part) (a : Bool) : PathOnly p (p.handDF a) := handClaim_path _ _ _ _

theorem completeSwitch_path (p : Part) : PathOnly p p.completeSwitch := by
  unfold Part.completeSwitch
  split
  · split
    · rfl
    · split
      · exact release_path _
      · split
        · split
          · exact displace_path _
          · exact enterRun_path _
        · exact enterRun_path _
  · rfl

theorem expireMinHold_path (p : Part) : PathOnly p p.expireMinHold := by
  unfold Part.expireMinHold
  dsimp only
  split
  · split
    · exact PathOnly.after (release_path _) rfl
    · exact PathOnly.after (giveWay_path _) rfl
  · rfl

theorem expireMaxHold_path (p : Part) : PathOnly p p.expireMaxHold := by
  unfold Part.expireMaxHold
  split
  · exact PathOnly.after (giveWay_path _) rfl
  · rfl

theorem reportComp_path (p : Part) (v : Nat) : PathOnly p (p.reportComp v) := by
  unfold Part.reportComp
  split
  · exact startRun_path _
  · rfl

theorem countValue_path (p : Part) : PathOnly p p.countValue := by
  unfold Part.countValue
  split <;> rfl

theorem passValue_path (p : Part) (c : Comp) : PathOnly p (p.passValue c) := by
  unfold Part.passValue
  split
  · exact countValue_path _
  · rfl

theorem countBlindSecond_path (p : Part) : PathOnly p p.countBlindSecond := by
  unfold Part.countBlindSecond
  split
  · split
    · exact countValue_path _
    · rfl
  · rfl

theorem setShed_path (p : Part) (b : Bool) : PathOnly p (p.setShed b) := by
  unfold Part.setShed
  dsimp only
  split <;> rfl

theorem refitSpeed_path (p : Part) : PathOnly p p.refitSpeed := by
  unfold Part.refitSpeed
  split
  · split
    · split <;> rfl
    · split <;> rfl
  · split <;> rfl
  · rfl

theorem clearPath_path (p : Part) (n : PathState) : PathOnly p (p.clearPath n) :=
  PathOnly.after (adoptValve_path _) rfl

theorem tripPath_path (p : Part) : PathOnly p p.tripPath := by
  unfold Part.tripPath
  split
  · rfl
  · rfl
  · exact (leaveFF_path p).trans (clearPath_path _ _)

theorem joinRaised_path (p : Part) : PathOnly p p.joinRaised := by
  have h : ∀ (l : List Claimant) (q : Part), PathOnly p q → PathOnly p (l.foldl
      (fun q k => if (q.path.claims.get k).raised then q.enqueue k else q) q) := by
    intro l
    induction l with
    | nil => exact fun q hq => hq
    | cons k l ih =>
      intro q hq
      refine ih _ ?_
      dsimp only
      split
      · exact hq.trans (enqueue_path _ _)
      · exact hq
  exact h _ p (.refl p)

theorem takeUp_path (p : Part) : PathOnly p p.takeUp := by
  unfold Part.takeUp
  refine PathOnly.trans ?_ (grantHead_path _)
  refine PathOnly.trans ?_ (joinRaised_path _)
  exact PathOnly.after (adoptValve_path _) rfl

theorem untripPath_path (p : Part) : PathOnly p p.untripPath := by
  unfold Part.untripPath
  split
  · split
    · exact takeUp_path _
    · rfl
  · rfl

theorem enterRegulate_path (p : Part) : PathOnly p p.enterRegulate := by
  unfold Part.enterRegulate
  split
  · exact takeUp_path _
  · rfl

/-! ## The compartment unit -/

theorem setComp_inner (p : Part) (c : Comp) (r : CompRec) : InnerOnly p (p.setComp c r) := by
  unfold Part.setComp
  dsimp only
  split <;> rfl

theorem setComps_inner (p : Part) (f : Comp → CompRec → CompRec) : InnerOnly p (p.setComps f) :=
  ((setComp_inner p _ _).trans (setComp_inner _ _ _)).trans (setComp_inner _ _ _)

theorem inEitherOrder_inner (p : Part) (f g : Part → Part) (hf : ∀ q, InnerOnly q (f q))
    (hg : ∀ q, InnerOnly q (g q)) : InnerOnly p (p.inEitherOrder f g) := by
  unfold Part.inEitherOrder
  dsimp only
  split
  · exact InnerOnly.after (hf _) (InnerOnly.after (hg _) rfl)
  · exact InnerOnly.after (hg _) (InnerOnly.after (hf _) rfl)

theorem handClaims_inner (p : Part) : InnerOnly p p.handClaims := by
  unfold Part.handClaims
  split
  · exact inEitherOrder_inner _ _ _ (fun q => (handFF_path q _ _).inner) fun q => (handFZ_path q _ _).inner
  · exact ((handFF_path p _ _).trans (handFZ_path _ _ _)).inner

theorem recompute_inner (p : Part) (c : Comp) : InnerOnly p (p.recompute c) :=
  (setComp_inner p _ _).trans (handClaims_inner _)

theorem raise_inner (p : Part) (f : Flag) : InnerOnly p (p.raise f) := rfl

theorem takeAir_inner (p : Part) (c : Comp) (a : Ann) (l : LostChange) : InnerOnly p (p.takeAir c a l) :=
  (setComp_inner p c _).trans (setComp_inner _ c _)

theorem announceAir_inner (p : Part) (c : Comp) (a : Ann) (l : LostChange) :
    InnerOnly p (p.announceAir c a l) := by
  unfold Part.announceAir
  dsimp only
  have h1 : ∀ q : Part, InnerOnly p q → InnerOnly p
      (if p.active = true ∧ l = .begins then q.raiseBlind c else q) := by
    intro q hq
    split
    · exact hq.trans rfl
    · exact hq
  have h2 := (h1 _ (takeAir_inner p c a l)).trans (handClaims_inner _)
  split
  · exact h2.trans (passValue_path _ _).inner
  · exact h2

theorem setStack_inner (p : Part) (c : Comp) (l : List Override) : InnerOnly p (p.setStack c l) :=
  InnerOnly.after (recompute_inner _ _) rfl

theorem doorRecovery_inner (p : Part) (c : Comp) (o : Int) (d : Nat) : InnerOnly p (p.doorRecovery c o d) := by
  unfold Part.doorRecovery
  dsimp only
  split
  · exact setStack_inner _ _ _
  · split
    · exact setStack_inner _ _ _
    · rfl

theorem expireOverride_inner (p : Part) (c : Comp) (n : Nat) : InnerOnly p (p.expireOverride c n) := by
  unfold Part.expireOverride
  split
  · split
    · exact setStack_inner _ _ _
    · rfl
  · rfl

theorem expireBlind_inner (p : Part) (c : Comp) : InnerOnly p (p.expireBlind c) := by
  unfold Part.expireBlind
  dsimp only
  split
  · split
    · exact (setComp_inner _ _ _).trans (handClaims_inner _)
    · exact (setComp_inner _ _ _).trans (handClaims_inner _)
    · rfl
  · rfl

theorem expireWarm_inner (p : Part) (c : Comp) : InnerOnly p (p.expireWarm c) := setComp_inner _ _ _

theorem compsTake_inner (p : Part) (f : Comp → CompRec → CompRec) : InnerOnly p (p.compsTake f) :=
  (setComps_inner p f).trans (handClaims_inner _)

theorem raiseBlindLost_inner (p : Part) : InnerOnly p p.raiseBlindLost := by
  have h : ∀ (l : List Comp) (q : Part), InnerOnly p q → InnerOnly p (l.foldl
      (fun q c => if (q.comp c).lost then q.raiseBlind c else q) q) := by
    intro l
    induction l with
    | nil => exact fun q hq => hq
    | cons k l ih =>
      intro q hq
      refine ih _ ?_
      dsimp only
      split
      · exact hq.trans rfl
      · exact hq
  exact h _ p (.refl p)

/-! ## The defrost sequencer -/

theorem accumulate_inner (p : Part) : InnerOnly p p.accumulate := by
  unfold Part.accumulate
  split <;> rfl

theorem testDeferral_path (p : Part) : PathOnly p p.testDeferral := by
  unfold Part.testDeferral
  split
  · exact PathOnly.after (handDF_path _ _) rfl
  · rfl

theorem becomeDue_path (p : Part) : PathOnly p p.becomeDue := PathOnly.after (testDeferral_path _) rfl

theorem endHeat_path (p : Part) (c : EndCause) : PathOnly p (p.endHeat c) := rfl

theorem checkTermination_path (p : Part) : PathOnly p p.checkTermination := by
  unfold Part.checkTermination
  split <;> rfl

theorem checkNewCoil_path (p : Part) : PathOnly p p.checkNewCoil := by
  unfold Part.checkNewCoil
  split <;> rfl

theorem checkTimeout_inner (p : Part) : InnerOnly p p.checkTimeout := by
  unfold Part.checkTimeout
  split <;> rfl

theorem resumeHeat_inner (p : Part) : InnerOnly p p.resumeHeat :=
  InnerOnly.after (checkTimeout_inner _) (PathOnly.inner (PathOnly.after (checkTermination_path _) rfl))

theorem reportHeater_path (p : Part) (v : Nat) : PathOnly p (p.reportHeater v) := by
  unfold Part.reportHeater
  split
  · exact PathOnly.after (checkTermination_path _) rfl
  · rfl

theorem tickDefrost_path (p : Part) : PathOnly p p.tickDefrost := rfl

theorem completeDefrost_inner (p : Part) : InnerOnly p p.completeDefrost := by
  unfold Part.completeDefrost
  dsimp only
  split
  · exact InnerOnly.after (handDF_path _ _).inner (InnerOnly.after (handRecover_path _ _).inner rfl)
  · rfl

theorem endRecover_path (p : Part) : PathOnly p p.endRecover := by
  unfold Part.endRecover
  dsimp only
  have h : PathOnly p (({ p with
      defrost.recover := .stopped
      defrost.recoverClaim := false
      defrost.phase := .idle }).handRecover false) := PathOnly.after (handRecover_path _ _) rfl
  split
  · exact h.trans (becomeDue_path _)
  · exact h

theorem expireRecover_path (p : Part) : PathOnly p p.expireRecover := by
  unfold Part.expireRecover
  split
  · exact endRecover_path _
  · rfl

theorem announceCoil_path (p : Part) (a : Ann) : PathOnly p (p.announceCoil a) := by
  unfold Part.announceCoil
  split
  · rfl
  · rfl
  · dsimp only
    split
    · exact PathOnly.after (checkNewCoil_path _) rfl
    · split
      · exact PathOnly.after (endRecover_path _) rfl
      · rfl
    · rfl

theorem fallDue_path (p : Part) : PathOnly p p.fallDue := by
  unfold Part.fallDue
  split
  · exact becomeDue_path _
  · rfl

theorem exhaustBudget_inner (p : Part) : InnerOnly p p.exhaustBudget := by
  unfold Part.exhaustBudget
  split
  · exact resumeHeat_inner _
  · rfl

theorem takeShed_path (p : Part) (b : Bool) : PathOnly p (p.takeShed b) :=
  PathOnly.after (testDeferral_path _) rfl

theorem changeShed_path (p : Part) (b : Bool) : PathOnly p (p.changeShed b) := by
  unfold Part.changeShed
  split
  · rfl
  · exact (setShed_path p b).trans (takeShed_path _ _)

theorem runOutDeferral_path (p : Part) : PathOnly p p.runOutDeferral := by
  unfold Part.runOutDeferral
  split
  · exact testDeferral_path _
  · rfl

/-- An abort places off in the HEATER slot, and changes the path besides. -/
theorem abortDefrost_path (p : Part) (c : EndCause) : PathOnly p.placeHeaterOff (p.abortDefrost c) :=
  PathOnly.after (testDeferral_path _) rfl

/-- Off placed in the HEATER slot changes nothing but that slot's request. -/
theorem placeHeaterOff_slots (p : Part) :
    p.placeHeaterOff = { p with slots := p.placeHeaterOff.slots } ∧ SlotsKept p p.placeHeaterOff ∧
      ∀ r, r ≠ .heater → p.placeHeaterOff.slot r = p.slot r := by
  unfold Part.placeHeaterOff
  split
  · refine ⟨?_, ask_record p .heater 0, fun r h => ?_⟩ <;> unfold Part.ask <;> split
    · rfl
    · rfl
    · rfl
    · exact Part.setSlot_slot_other _ _ h
  · exact ⟨rfl, SlotsKept.refl p, fun _ _ => rfl⟩

/-- A trip or an entry to BYPASS at the sequencer: an abort, the end of RECOVER, or nothing. -/
theorem cutDefrost_cases (p : Part) (c : EndCause) :
    PathOnly p.placeHeaterOff (p.cutDefrost c) ∨ PathOnly p (p.cutDefrost c) := by
  unfold Part.cutDefrost
  split
  · exact .inl (abortDefrost_path _ _)
  · split
    · exact .inr (endRecover_path _)
    · exact .inr (PathOnly.refl p)

/-! ## The door unit -/

theorem testRecovery_inner (p : Part) (d : DoorId) (w : Nat) (h : WidthLevel) :
    InnerOnly p (p.testRecovery d w h) := by
  unfold Part.testRecovery
  dsimp only
  split
  · exact doorRecovery_inner _ _ _ _
  · rfl

theorem closeDoor_inner (p : Part) (d : DoorId) (h : WidthLevel) : InnerOnly p (p.closeDoor d h) :=
  InnerOnly.after (testRecovery_inner _ _ _ _) rfl

theorem announceDoor_inner (p : Part) (d : DoorId) (a : Ann) : InnerOnly p (p.announceDoor d a) := by
  unfold Part.announceDoor
  split
  · rfl
  · split
    · exact closeDoor_inner _ _ _
    · rfl
  · split
    · split <;> rfl
    · split
      · exact closeDoor_inner _ _ _
      · rfl

theorem expireFanStop_inner (p : Part) (d : DoorId) : InnerOnly p (p.expireFanStop d) := by
  unfold Part.expireFanStop
  split <;> rfl

theorem expireAjar_inner (p : Part) (d : DoorId) : InnerOnly p (p.expireAjar d) := by
  unfold Part.expireAjar
  split <;> rfl

/-! ## The point unit -/

theorem takeFFCoil_path (p : Part) (t : Int) : PathOnly p (p.takeFFCoil t) := by
  unfold Part.takeFFCoil
  split <;> rfl

theorem announce_inner (p : Part) (x : Announcement) : InnerOnly p (p.announce x) := by
  unfold Part.announce
  split
  · exact announceAir_inner _ _ _ _
  · exact announceAir_inner _ _ _ _
  · exact announceAir_inner _ _ _ _
  · split
    · exact (takeFFCoil_path _ _).inner
    · rfl
  · exact (announceCoil_path _ _).inner
  · exact announceDoor_inner _ _ _
  · exact announceDoor_inner _ _ _
  · exact announceDoor_inner _ _ _
  · exact announceDoor_inner _ _ _
  · rfl

theorem foldAnnounce_inner (p : Part) : ∀ (l : List Announcement) (q : Part), InnerOnly p q →
    InnerOnly p (l.foldl Part.announce q)
  | [], _, h => h
  | x :: l, _, h => foldAnnounce_inner p l _ (h.trans (announce_inner _ x))

theorem announceAll_inner (p : Part) (l : List Announcement) : InnerOnly p (p.announceAll l) := by
  unfold Part.announceAll
  split
  · rfl
  · exact announce_inner _ _
  · exact foldAnnounce_inner _ _ _ rfl

theorem resolveAfresh_inner (p : Part) (s : Option PointId) (f : PointId → Bool) :
    InnerOnly p (p.resolveAfresh s f) := InnerOnly.after (announceAll_inner _ _) rfl

theorem resolveFrom_inner (p : Part) (s : Option PointId) (i : PointId) : InnerOnly p (p.resolveFrom s i) :=
  resolveAfresh_inner _ _ _

theorem takeSample_inner (p : Part) (i : PointId) (v : Int) (n : Nat) : InnerOnly p (p.takeSample i v n) :=
  InnerOnly.after (resolveFrom_inner _ _ _) rfl

theorem raiseIfTargeted_inner (p : Part) (i : PointId) : InnerOnly p (p.raiseIfTargeted i) := by
  unfold Part.raiseIfTargeted
  split <;> rfl

theorem takeOutOfSpan_inner (p : Part) (i : PointId) (n : Nat) : InnerOnly p (p.takeOutOfSpan i n) := by
  unfold Part.takeOutOfSpan
  dsimp only
  split
  · rfl
  · exact InnerOnly.after (resolveFrom_inner _ _ _) (InnerOnly.after (raiseIfTargeted_inner _ _) rfl)

theorem deliver_inner (p : Part) (d : Delivery) : InnerOnly p (p.deliver d).1 := by
  have h1 := fun v => takeSample_inner p d.point v d.count
  have h2 := takeOutOfSpan_inner p d.point d.count
  unfold Part.deliver
  generalize p.takeSample d.point = f at *
  generalize p.takeOutOfSpan d.point d.count = q at *
  split
  · exact InnerOnly.refl p
  · split
    · exact h1 _
    · split
      · exact InnerOnly.refl p
      · split
        · exact h2
        · exact h1 _

theorem expireStale_inner (p : Part) (i : PointId) : InnerOnly p (p.expireStale i) := by
  unfold Part.expireStale
  dsimp only
  split
  · exact InnerOnly.after (resolveFrom_inner _ _ _) (InnerOnly.after (raiseIfTargeted_inner _ _) rfl)
  · rfl

theorem unseeAll_inner (p : Part) : InnerOnly p p.unseeAll := InnerOnly.after (resolveAfresh_inner _ _ _) rfl

theorem takeChannels_inner (node : Nat) (ready : Bool) :
    ∀ (l : List ChannelEntry) (p : Part), InnerOnly p (p.takeChannels node ready l).1
  | [], _ => rfl
  | x :: l, p => by
    unfold Part.takeChannels
    refine InnerOnly.trans ?_ (takeChannels_inner node ready l _)
    unfold Part.takeChannel
    split
    · exact InnerOnly.refl p
    · split
      · exact InnerOnly.refl p
      · cases ready with
        | true => exact deliver_inner _ _
        | false => exact InnerOnly.refl p

end Sys2Proof.Machine
end

