-- ==== Sys2Proof/Laws/PerInstr.lean ====
section
/-! SUPPORT. One family of per-command lemmas: a well-formed command that a main-link frame spells is spelled by a
frame that fits the link (R188) and that the part does not discard (R189). -/

namespace Sys2Proof.Laws

open Sys2Proof

/-- The frame that spells a well-formed command fits the link and is not discarded. -/
def FrameFits.Statement (i : Instr) : Prop :=
  i.wf = true → ∀ f, frameOf i = some f → f.fits = true ∧ discards f = false

/-- The frame of a request with few enough argument bytes fits the link and is not discarded. -/
theorem requestFrame_fits (code : Byte) (args : List Byte) (h : args.length ≤ 39) :
    (requestFrame code args).fits = true ∧ discards (requestFrame code args) = false := by
  constructor
  · exact decide_eq_true (Nat.succ_le_succ h)
  · simp [discards, requestFrame, Machine.kindRequest]

theorem fits_of_request {i : Instr} (code : Byte) (args : List Byte) (h : args.length ≤ 39)
    (hi : frameOf i = some (requestFrame code args)) : FrameFits.Statement i := by
  intro _ f hf
  rw [hi] at hf
  cases hf
  exact requestFrame_fits code args h

theorem fits_of_none {i : Instr} (hi : frameOf i = none) : FrameFits.Statement i := by
  intro _ f hf
  rw [hi] at hf
  cases hf

theorem fits_tableData (a : TableDataArgs) : FrameFits.Statement (.tableData (.form a)) := by
  intro h f hf
  cases hf
  have h38 : a.bytes.length ≤ 38 := by simpa only [Instr.wf, dataFits, decide_eq_true_eq] using h
  exact requestFrame_fits 7 (a.table :: a.bytes) (Nat.succ_le_succ h38)

theorem fits_relayFrame (f : Frame) : FrameFits.Statement (.relayFrame f) := by
  intro h g hg
  cases hg
  simp only [Instr.wf, Bool.and_eq_true, Frame.relays, decide_eq_true_eq] at h
  obtain ⟨hf, hs, h2, h62, hk⟩ := h
  refine ⟨hf, ?_⟩
  have h0 : f.dst ≠ 0 := by intro h; rw [h] at h2; simp at h2
  have h1 : f.dst ≠ 1 := by intro h; rw [h] at h2; simp at h2
  have hk' : f.kind = Machine.kindRequest → f.payload ≠ [] := fun h hp => hk ⟨h, hp⟩
  simp only [discards, decide_eq_false_iff_not, not_or, not_and]
  exact ⟨not_not.2 hs, h0, by omega, fun h => absurd h h1, hk'⟩

theorem FrameFits.powerOnReset : FrameFits.Statement .powerOnReset := fits_of_none rfl

theorem FrameFits.warmRestart (a : Args Unit) : FrameFits.Statement (.warmRestart a) := by
  cases a with
  | form a => exact fits_of_request _ _ (Nat.le_of_ble_eq_true rfl) rfl
  | illFormed => exact fits_of_none rfl

theorem FrameFits.restartTakesEffect : FrameFits.Statement .restartTakesEffect := fits_of_none rfl

theorem FrameFits.identify (a : Args Unit) : FrameFits.Statement (.identify a) := by
  cases a with
  | form a => exact fits_of_request _ _ (Nat.le_of_ble_eq_true rfl) rfl
  | illFormed => exact fits_of_none rfl

theorem FrameFits.query (a : Args QueryArgs) : FrameFits.Statement (.query a) := by
  cases a with
  | form a => exact fits_of_request _ _ (Nat.le_of_ble_eq_true rfl) rfl
  | illFormed => exact fits_of_none rfl

theorem FrameFits.setMode (a : Args Byte) : FrameFits.Statement (.setMode a) := by
  cases a with
  | form a => exact fits_of_request _ _ (Nat.le_of_ble_eq_true rfl) rfl
  | illFormed => exact fits_of_none rfl

theorem FrameFits.setLock (a : Args Byte) : FrameFits.Statement (.setLock a) := by
  cases a with
  | form a => exact fits_of_request _ _ (Nat.le_of_ble_eq_true rfl) rfl
  | illFormed => exact fits_of_none rfl

theorem FrameFits.tableOpen (a : Args TableOpenArgs) : FrameFits.Statement (.tableOpen a) := by
  cases a with
  | form a => exact fits_of_request _ _ (Nat.le_of_ble_eq_true rfl) rfl
  | illFormed => exact fits_of_none rfl

theorem FrameFits.tableData (a : Args TableDataArgs) : FrameFits.Statement (.tableData a) := by
  cases a with
  | form a => exact fits_tableData a
  | illFormed => exact fits_of_none rfl

theorem FrameFits.tableClose (a : Args Byte) : FrameFits.Statement (.tableClose a) := by
  cases a with
  | form a => exact fits_of_request _ _ (Nat.le_of_ble_eq_true rfl) rfl
  | illFormed => exact fits_of_none rfl

theorem FrameFits.tableAbort (a : Args Byte) : FrameFits.Statement (.tableAbort a) := by
  cases a with
  | form a => exact fits_of_request _ _ (Nat.le_of_ble_eq_true rfl) rfl
  | illFormed => exact fits_of_none rfl

theorem FrameFits.tableRead (a : Args TableReadArgs) : FrameFits.Statement (.tableRead a) := by
  cases a with
  | form a => exact fits_of_request _ _ (Nat.le_of_ble_eq_true rfl) rfl
  | illFormed => exact fits_of_none rfl

theorem FrameFits.swapMap (a : Args Byte) : FrameFits.Statement (.swapMap a) := by
  cases a with
  | form a => exact fits_of_request _ _ (Nat.le_of_ble_eq_true rfl) rfl
  | illFormed => exact fits_of_none rfl

theorem FrameFits.setSetpoint (a : Args SetpointArgs) : FrameFits.Statement (.setSetpoint a) := by
  cases a with
  | form a => exact fits_of_request _ _ (Nat.le_of_ble_eq_true rfl) rfl
  | illFormed => exact fits_of_none rfl

theorem FrameFits.pushOverride (a : Args PushArgs) : FrameFits.Statement (.pushOverride a) := by
  cases a with
  | form a => exact fits_of_request _ _ (Nat.le_of_ble_eq_true rfl) rfl
  | illFormed => exact fits_of_none rfl

theorem FrameFits.popOverride (a : Args Byte) : FrameFits.Statement (.popOverride a) := by
  cases a with
  | form a => exact fits_of_request _ _ (Nat.le_of_ble_eq_true rfl) rfl
  | illFormed => exact fits_of_none rfl

theorem FrameFits.clearOverrides (a : Args Byte) : FrameFits.Statement (.clearOverrides a) := by
  cases a with
  | form a => exact fits_of_request _ _ (Nat.le_of_ble_eq_true rfl) rfl
  | illFormed => exact fits_of_none rfl

theorem FrameFits.injectSample (a : Args InjectArgs) : FrameFits.Statement (.injectSample a) := by
  cases a with
  | form a => exact fits_of_request _ _ (Nat.le_of_ble_eq_true rfl) rfl
  | illFormed => exact fits_of_none rfl

theorem FrameFits.defrostStart (a : Args Unit) : FrameFits.Statement (.defrostStart a) := by
  cases a with
  | form a => exact fits_of_request _ _ (Nat.le_of_ble_eq_true rfl) rfl
  | illFormed => exact fits_of_none rfl

theorem FrameFits.defrostHold (a : Args Unit) : FrameFits.Statement (.defrostHold a) := by
  cases a with
  | form a => exact fits_of_request _ _ (Nat.le_of_ble_eq_true rfl) rfl
  | illFormed => exact fits_of_none rfl

theorem FrameFits.defrostResume (a : Args Unit) : FrameFits.Statement (.defrostResume a) := by
  cases a with
  | form a => exact fits_of_request _ _ (Nat.le_of_ble_eq_true rfl) rfl
  | illFormed => exact fits_of_none rfl

theorem FrameFits.loadShed (a : Args Byte) : FrameFits.Statement (.loadShed a) := by
  cases a with
  | form a => exact fits_of_request _ _ (Nat.le_of_ble_eq_true rfl) rfl
  | illFormed => exact fits_of_none rfl

theorem FrameFits.trip (a : Args Unit) : FrameFits.Statement (.trip a) := by
  cases a with
  | form a => exact fits_of_request _ _ (Nat.le_of_ble_eq_true rfl) rfl
  | illFormed => exact fits_of_none rfl

theorem FrameFits.rearm (a : Args Unit) : FrameFits.Statement (.rearm a) := by
  cases a with
  | form a => exact fits_of_request _ _ (Nat.le_of_ble_eq_true rfl) rfl
  | illFormed => exact fits_of_none rfl

theorem FrameFits.clearFaults (a : Args Half) : FrameFits.Statement (.clearFaults a) := by
  cases a with
  | form a => exact fits_of_request _ _ (Nat.le_of_ble_eq_true rfl) rfl
  | illFormed => exact fits_of_none rfl

theorem FrameFits.setAttentionMask (a : Args Half) : FrameFits.Statement (.setAttentionMask a) := by
  cases a with
  | form a => exact fits_of_request _ _ (Nat.le_of_ble_eq_true rfl) rfl
  | illFormed => exact fits_of_none rfl

theorem FrameFits.doorRead (a : Args Unit) : FrameFits.Statement (.doorRead a) := by
  cases a with
  | form a => exact fits_of_request _ _ (Nat.le_of_ble_eq_true rfl) rfl
  | illFormed => exact fits_of_none rfl

theorem FrameFits.unknownRequest (code : Byte) : FrameFits.Statement (.unknownRequest code) := fits_of_request code [] (Nat.zero_le 39) rfl

theorem FrameFits.relayFrame (f : Frame) : FrameFits.Statement (.relayFrame f) := fits_relayFrame f

theorem FrameFits.mainFrameDiscard : FrameFits.Statement .mainFrameDiscard := fits_of_none rfl

theorem FrameFits.egressTransmit : FrameFits.Statement .egressTransmit := fits_of_none rfl

theorem FrameFits.secondTick : FrameFits.Statement .secondTick := fits_of_none rfl

theorem FrameFits.staleTimerExpiry (p : PointId) : FrameFits.Statement (.staleTimerExpiry p) := fits_of_none rfl

theorem FrameFits.overrideExpiry (c : Comp) (slot : Nat) : FrameFits.Statement (.overrideExpiry c slot) := fits_of_none rfl

theorem FrameFits.blindTimerExpiry (c : Comp) : FrameFits.Statement (.blindTimerExpiry c) := fits_of_none rfl

theorem FrameFits.warmAlarmExpiry (c : Comp) : FrameFits.Statement (.warmAlarmExpiry c) := fits_of_none rfl

theorem FrameFits.switchCompletion : FrameFits.Statement .switchCompletion := fits_of_none rfl

theorem FrameFits.minimumHoldExpiry : FrameFits.Statement .minimumHoldExpiry := fits_of_none rfl

theorem FrameFits.maximumHoldExpiry : FrameFits.Statement .maximumHoldExpiry := fits_of_none rfl

theorem FrameFits.defrostDue : FrameFits.Statement .defrostDue := fits_of_none rfl

theorem FrameFits.shedDeferralRunOut : FrameFits.Statement .shedDeferralRunOut := fits_of_none rfl

theorem FrameFits.heatTimeout : FrameFits.Statement .heatTimeout := fits_of_none rfl

theorem FrameFits.budgetExhaustion : FrameFits.Statement .budgetExhaustion := fits_of_none rfl

theorem FrameFits.dripTimerExpiry : FrameFits.Statement .dripTimerExpiry := fits_of_none rfl

theorem FrameFits.recoverTimerExpiry : FrameFits.Statement .recoverTimerExpiry := fits_of_none rfl

theorem FrameFits.fanStopTimerExpiry (d : DoorId) : FrameFits.Statement (.fanStopTimerExpiry d) := fits_of_none rfl

theorem FrameFits.ajarTimerExpiry (d : DoorId) : FrameFits.Statement (.ajarTimerExpiry d) := fits_of_none rfl

theorem FrameFits.refreshTimerExpiry (r : Role) : FrameFits.Statement (.refreshTimerExpiry r) := fits_of_none rfl

theorem FrameFits.offCycleTimerExpiry : FrameFits.Statement .offCycleTimerExpiry := fits_of_none rfl

theorem FrameFits.deviationTimerExpiry : FrameFits.Statement .deviationTimerExpiry := fits_of_none rfl

theorem FrameFits.absenceTimerExpiry : FrameFits.Statement .absenceTimerExpiry := fits_of_none rfl

theorem FrameFits.cleanTimerExpiry : FrameFits.Statement .cleanTimerExpiry := fits_of_none rfl

theorem FrameFits.loadTimerExpiry : FrameFits.Statement .loadTimerExpiry := fits_of_none rfl

theorem FrameFits.pollDue (node : Byte) : FrameFits.Statement (.pollDue node) := fits_of_none rfl

theorem FrameFits.cabinetFrameSent : FrameFits.Statement .cabinetFrameSent := fits_of_none rfl

theorem FrameFits.cabinetReply (f : Frame) : FrameFits.Statement (.cabinetReply f) := fits_of_none rfl

theorem FrameFits.cabinetFrameDiscard : FrameFits.Statement .cabinetFrameDiscard := fits_of_none rfl

theorem FrameFits.replyWindowTimeout : FrameFits.Statement .replyWindowTimeout := fits_of_none rfl

end Sys2Proof.Laws
end

