-- ==== Sys2Proof/Laws/Requests.lean ====
section
/-! SUPPORT. What the shared handling of a request (R191) can do: discard it, refuse it, or carry it out. -/

namespace Sys2Proof.Machine

/-- With 8 frames in the queue and none of them READINGS there is no place. -/
theorem evictReadings_none : ∀ {l : List Egress}, (∀ e, e ∈ l → e.sort ≠ .readings) → evictReadings l = none
  | [], _ => rfl
  | a :: l, h => by
    unfold evictReadings
    rw [if_neg (h a List.mem_cons_self), evictReadings_none fun e he => h e (List.mem_cons_of_mem _ he)]

/-- The oldest READINGS frame is the one that makes room. -/
theorem evictReadings_first : ∀ {a : List Egress} {x : Egress} {b : List Egress}, x.sort = .readings →
    (∀ y, y ∈ a → y.sort ≠ .readings) → evictReadings (a ++ x :: b) = some (a ++ b)
  | [], x, b, hx, _ => by simp [evictReadings, hx]
  | y :: a, x, b, hx, h => by
    have := evictReadings_first (b := b) hx fun z hz => h z (List.mem_cons_of_mem _ hz)
    simp [evictReadings, h y List.mem_cons_self, this]

theorem hasPlace_false (p : Part) (h8 : 8 ≤ p.egress.length) (h : ∀ e, e ∈ p.egress → e.sort ≠ .readings) :
    p.hasPlace = false := by
  have hn : ¬ p.egress.length < queueLimit := Nat.not_lt.2 h8
  simp [Part.hasPlace, evictReadings_none h, hn]

/-- While a restart is pending a request is discarded. -/
theorem request_pending {α : Type} (p : Part) (code : Byte) (ex : Bool) (a : Args α)
    (act : α → Part → Answer) (dress : Answer → Answer) (h : p.restartPending = true) :
    p.request code ex a act dress = p := by
  simp [Part.request, h]

/-- A request whose REPLY can have no place raises DROP. -/
theorem request_noPlace {α : Type} (p : Part) (code : Byte) (ex : Bool) (a : Args α)
    (act : α → Part → Answer) (dress : Answer → Answer) (h : p.restartPending = false)
    (hp : p.hasPlace = false) : p.request code ex a act dress = p.dropReply := by
  simp [Part.request, h, hp]

/-- A request that can be answered is judged and answered. -/
theorem request_answers {α : Type} (p : Part) (code : Byte) (ex : Bool) (a : Args α)
    (act : α → Part → Answer) (dress : Answer → Answer) (h : p.answers) :
    p.request code ex a act dress = (dress (p.judge ex a act)).finish code := by
  simp [Part.request, h.1, h.2]

/-- In SHOWROOM a request that is not exempt is refused with MODE. -/
theorem judge_showroom {α : Type} (p : Part) (a : Args α) (act : α → Part → Answer) (h : p.mode = .showroom) :
    p.judge false a act = p.refuse .mode := by
  simp [Part.judge, h]

/-- Arguments that are not of the form are refused with RANGE. -/
theorem judge_illFormed {α : Type} (p : Part) (ex : Bool) (act : α → Part → Answer)
    (h : p.mode ≠ .showroom ∨ ex = true) : p.judge ex .illFormed act = p.refuse .range := by
  rcases h with h | h <;> simp [Part.judge, h]

/-- Arguments of the form are handed to the request's own checks. -/
theorem judge_form {α : Type} (p : Part) (ex : Bool) (x : α) (act : α → Part → Answer)
    (h : p.mode ≠ .showroom ∨ ex = true) : p.judge ex (.form x) act = act x p := by
  rcases h with h | h <;> simp [Part.judge, h]

/-- A refusal is recorded and answered. -/
theorem finish_refused (p : Part) (s : Status) (data : List Byte) (code : Byte) (h : s.accepted = false) :
    (⟨p, s, data⟩ : Answer).finish code = p.refusedBy code s data := by
  simp [Answer.finish, h, Part.refusedBy, Part.recordRefusal]

/-- An accepted request is answered. -/
theorem finish_accepted (p : Part) (s : Status) (data : List Byte) (code : Byte) (h : s.accepted = true) :
    (⟨p, s, data⟩ : Answer).finish code = p.reply code s data := by
  simp [Answer.finish, h]

/-- A request with arguments of its form, in a mode that lets it pass: what the owning block answers. -/
theorem request_form {α : Type} (p : Part) (code : Byte) (ex : Bool) (x : α) (act : α → Part → Answer)
    (dress : Answer → Answer) (h : p.answers) (hm : p.mode ≠ .showroom ∨ ex = true) :
    p.request code ex (.form x) act dress = (dress (act x p)).finish code := by
  rw [request_answers _ _ _ _ _ _ h, judge_form _ _ _ _ hm]

/-- The same for a request that SHOWROOM refuses. -/
theorem request_serves {α : Type} (p : Part) (code : Byte) (ex : Bool) (x : α) (act : α → Part → Answer)
    (dress : Answer → Answer) (h : p.serves) :
    p.request code ex (.form x) act dress = (dress (act x p)).finish code :=
  request_form _ _ _ _ _ _ h.1 (.inl h.2)

end Sys2Proof.Machine
end

