-- ==== Sys2Proof/Tests/Slice0.lean ====
section
/-! SUPPORT. Small tests: the WellFormed smoke, one step per command with the result the spec gives it, and for
every statement with hypotheses a witness that meets them. -/

namespace Sys2Proof.Tests

open Sys2Proof Sys2Proof.Machine

set_option Elab.async false

/-! ## WellFormed: an ill-formed command for each check -/

theorem test_wf_data : Instr.wf (.tableData (.form ⟨2, List.replicate 39 0⟩)) = false := by decide
theorem test_wf_data_fits : Instr.wf (.tableData (.form ⟨2, List.replicate 38 0⟩)) = true := by decide
theorem test_wf_unknown_request : Instr.wf (.unknownRequest 25) = false ∧ Instr.wf (.unknownRequest 64) = true := by
  decide
theorem test_wf_relay_length : Instr.wf (.relayFrame ⟨10, 0, 3, List.replicate 41 0⟩) = false := by decide
theorem test_wf_relay_source : Instr.wf (.relayFrame ⟨10, 2, 3, [1, 0, 0]⟩) = false := by decide
theorem test_wf_relay_dest : Instr.wf (.relayFrame ⟨63, 0, 3, [1, 0, 0]⟩) = false := by decide
theorem test_wf_relay_request : Instr.wf (.relayFrame ⟨10, 0, 5, []⟩) = false := by decide
theorem test_wf_override_slot : Instr.wf (.overrideExpiry .ff 4) = false := by decide
theorem test_wf_poll_node : Instr.wf (.pollDue 1) = false ∧ Instr.wf (.pollDue 62) = true := by decide
theorem test_wf_cabinet_reply : Instr.wf (.cabinetReply ⟨1, 5, 2, List.replicate 41 0⟩) = false := by decide

/-! ## Parts to start from -/

/-- The part after the command; none for a fault or a refusal. -/
def after (c : Instr) (p : Part) : Option Part :=
  match exec c ⟨p, []⟩ with
  | .next s => some s.part
  | _ => none

/-- The payload of the last frame of the egress queue after the command. -/
def replyTo (c : Instr) (p : Part) : Option (List Byte) :=
  (after c p).bind fun q => q.egress.getLast?.map fun e => e.frame.payload

/-- The drive map of sequence 1 of spec/11. -/
def places : Roles Location := ⟨⟨20, 0⟩, ⟨21, 0⟩, ⟨21, 1⟩, ⟨22, 0⟩, ⟨22, 1⟩, ⟨22, 2⟩, ⟨22, 3⟩⟩

/-- After power-on, in BYPASS, with the drive map loaded. -/
def mapped : Part :=
  { Part.initial with
    driveMap := some places
    tables := Part.initial.tables.set 11
      ⟨.valid, [[20, 0], [21, 0], [21, 1], [22, 0], [22, 1], [22, 2], [22, 3]]⟩ }

/-- In SERVICE. -/
def serving : Part := { mapped with mode := .service, path.state := .service }

/-- In REGULATE, the path OFF, nothing claimed, the line busy with a poll of node 5. -/
def regulating : Part :=
  { mapped with
    mode := .regulate
    path.state := .off
    seconds := 1000
    line.state := .awaiting
    line.txn := some ⟨⟨5, 1, kindPoll, []⟩, .poll⟩
    line.window := some 20 }

/-- FF holds the path in a started run, the compressor at 1600, its minimum hold running. -/
def running : Part :=
  { regulating with
    path.state := .run
    path.holder := some .ff
    path.valve := .ff
    path.runStarted := true
    path.minHold := .running 60
    path.maxHold := .running 900
    path.speed := 1600
    path.prevSpeed := some 1600
    path.claims.ff := ⟨true, 2, 0, 0⟩
    path.nextKey := 1
    comps.ff.demand := .calling
    comps.ff.air := some 420
    compStop := none
    slots.comp.sent := some 1600
    slots.comp.requested := 1600
    slots.valve.sent := some 0
    slots.valve.requested := 0 }

/-- FZ waits behind FF at class 1. -/
def contested : Part :=
  { running with
    path.queue := [.fz]
    path.claims.fz := ⟨true, 1, 1, 1⟩
    path.fzRaised := true
    path.fzUrgent := true
    path.nextKey := 2
    comps.fz.demand := .calling
    comps.fz.urgent := true }

/-- A defrost in HEAT: DF holds the path, the heater is on, the compressor has stood since second 0. -/
def heating : Part :=
  { regulating with
    path.state := .defrost
    path.holder := some .df
    path.claims.df := ⟨true, 0, 0, 0⟩
    path.nextKey := 1
    defrost.phase := .heat
    defrost.dfClaim := true
    defrost.heatTime := 840
    defrost.budget := 900
    defrost.budgetLoaded := 900
    defrost.heater := true
    defrost.accumulation := 28800
    slots.heater.sent := some 1
    heaterOff := none }

/-- A trip by DRIVE_FAULT stands. -/
def tripped : Part :=
  { regulating with
    trip := { TripRec.initial with
      state := .tripped
      first := some .driveFault
      causes := ⟨true, false, false⟩
      second := some 990 }
    path.state := .tripped
    slots := regulating.slots.mapWith fun _ s => { s with tripMark := true }
    flags := BitVec.twoPow 12 6
    details.trip := ⟨true, false, false⟩ }

/-- CURVE_0 with the two knots 0 at −1000 and 4000 at 7000, MAP_A with P0 on node 5 channel 0 and P1 protected
on channel 1. -/
def sensing : Part :=
  { regulating with
    tables := (regulating.tables.set 2
      ⟨.valid, [1, 0, -1000] :: [1, 4000, 7000] :: List.replicate 15 [0, 0, 0]⟩).set 0
      ⟨.valid, [1, 5, 0, 0, 0, 0, 2, 0, 0] :: [1, 5, 1, 1, 0, 0, 0, 0, 1] ::
        [1, 5, 2, 6, 0, 0, 0, 0, 0] :: List.replicate 21 [0, 0, 0, 0, 0, 0, 0, 0, 0]⟩ }

/-- A load of CURVE_0 is open, its cursor at the last index. -/
def loading : Part :=
  { serving with
    tables := serving.tables.set 2 ⟨.loading, List.replicate 17 [0, 0, 0]⟩
    load := some ⟨2, 16, .running 12⟩ }

/-- An override of FF that a duration gives. -/
def pushed (remaining : Nat) (tag : OverrideTag) : Override := ⟨.offset, -100, 600, remaining, .controller, tag⟩

/-! ## Frames (R188, R189, R190); the checks are computed apart from the model -/

theorem test_frame_load_shed : mainBytes [0x01, 0x00, 0x05, 0x02, 0x14, 0x00, 0x56, 0x22] = .loadShed (.form 0) := by
  decide +kernel
theorem test_frame_push : mainBytes [0x01, 0x00, 0x05, 0x07, 0x0D, 0x02, 0x01, 0xFF, 0x9C, 0x02, 0x58, 0x8C, 0xED] =
    .pushOverride (.form ⟨2, 1, -100#16, 600#16⟩) := by decide +kernel
theorem test_frame_inject : mainBytes [0x01, 0x00, 0x05, 0x04, 0x10, 0x00, 0x07, 0xD0, 0xF5, 0xA7] =
    .injectSample (.form ⟨0, 2000#16⟩) := by decide +kernel
theorem test_frame_clear_faults : mainBytes [0x01, 0x00, 0x05, 0x03, 0x17, 0x00, 0x40, 0x7F, 0x13] =
    .clearFaults (.form 64#16) := by decide +kernel
theorem test_frame_open : mainBytes [0x01, 0x00, 0x05, 0x03, 0x06, 0x02, 0x00, 0x25, 0xE6] =
    .tableOpen (.form ⟨2, 0⟩) := by decide +kernel
theorem test_frame_door_read : mainBytes [0x01, 0x00, 0x05, 0x01, 0x19, 0xE0, 0x84] = .doorRead (.form ()) := by
  decide +kernel
theorem test_frame_relay_code : mainBytes [0x01, 0x00, 0x05, 0x01, 0x40, 0x2B, 0x58] = .unknownRequest 64 := by
  decide +kernel
theorem test_frame_excess : mainBytes [0x01, 0x00, 0x05, 0x02, 0x01, 0x09, 0x3B, 0x8D] = .identify .illFormed := by
  decide +kernel
theorem test_frame_wrong_source : mainBytes [0x01, 0x02, 0x05, 0x01, 0x01, 0x9E, 0xD5] = .mainFrameDiscard := by
  decide +kernel
theorem test_frame_sample : cabinetBytes [0x01, 0x05, 0x02, 0x04, 0x00, 0x00, 0x07, 0xD0, 0x5F, 0xE6] =
    .cabinetReply ⟨1, 5, 2, [0, 0, 7, 208]⟩ := by decide +kernel
theorem test_frame_bad_check : cabinetBytes [0x01, 0x05, 0x02, 0x04, 0x00, 0x00, 0x07, 0xD0, 0x5F, 0xE7] =
    .cabinetFrameDiscard := by decide +kernel

/-! ## Management unit -/

theorem test_power_on_reset : (after .powerOnReset running).map (fun q =>
    (q.mode, q.seconds, q.path.state, q.path.valve, q.compStop)) =
    some (.bypass, 0, .parked, .fz, some 0) := by decide +kernel
theorem test_warm_restart : replyTo (.warmRestart (.form ())) serving = some [5, 0, 0] ∧
    (after (.warmRestart (.form ())) serving).map (fun q => q.restartPending) = some true := by decide +kernel
theorem test_warm_restart_showroom :
    replyTo (.warmRestart (.form ())) { mapped with mode := .showroom, origin := some .bypass } = some [5, 4, 0] := by
  decide +kernel
theorem test_restart_takes_effect : (after .restartTakesEffect
    { serving with restartPending := true, lockLevel := 2, lockWritten := true, seconds := 500, compStop := some 400 }).map
      (fun q => (q.mode, q.lockLevel, q.seconds, q.restartPending, q.compStop)) =
    some (.bypass, 2, 0, false, some (-100)) := by decide +kernel
theorem test_identify : replyTo (.identify (.form ())) mapped =
    some [1, 0, 0, 83, 30, 1, 1, 0, 255, 0, 0, 255, 0, 0, 0, 0] := by decide +kernel
theorem test_query_item_range : replyTo (.query (.form ⟨1, 3, 0⟩)) mapped = some [2, 12, 0] := by decide +kernel
theorem test_query_page_range : replyTo (.query (.form ⟨0, 15, 200⟩)) mapped = some [2, 12, 0] := by decide +kernel
theorem test_set_mode_regulate : replyTo (.setMode (.form 1)) mapped = some [3, 0, 0, 1, 255] ∧
    (after (.setMode (.form 1)) mapped).map (fun q => (q.path.state, q.comps.fz.demand, (q.point 0).stale)) =
      some (.off, .waiting, .running 10) := by decide +kernel
theorem test_set_mode_invalid : replyTo (.setMode (.form 1)) Part.initial = some [3, 5, 0] := by decide +kernel
theorem test_set_lock : replyTo (.setLock (.form 3)) mapped = some [4, 0, 0] ∧
    (after (.setLock (.form 3)) mapped).map (fun q => (q.lockLevel, q.lockWritten)) = some (3, true) := by decide +kernel
theorem test_set_lock_range : replyTo (.setLock (.form 4)) mapped = some [4, 12, 0] := by decide +kernel
theorem test_clear_faults_level : replyTo (.clearFaults (.form 64)) tripped = some [23, 0, 1, 0, 64] := by decide +kernel
theorem test_clear_faults : replyTo (.clearFaults (.form 4)) { mapped with flags := 4 } = some [23, 0, 0, 0, 0] := by
  decide +kernel
theorem test_set_attention_mask : replyTo (.setAttentionMask (.form 64)) tripped = some [24, 0, 0] := by decide +kernel
theorem test_unknown_request : replyTo (.unknownRequest 64) mapped = some [64, 14, 0] := by decide +kernel
theorem test_main_frame_discard : after .mainFrameDiscard running = some running := by rfl
theorem test_egress_transmit : (after .egressTransmit
    { mapped with egress := [⟨.reply, ⟨0, 1, 6, [4, 0, 0]⟩⟩, ⟨.readings, ⟨0, 1, 7, [0, 5]⟩⟩] }).map (fun q =>
      (q.egress.length, q.mtx.map fun e => e.frame.payload)) = some (1, some [4, 0, 0]) := by decide +kernel
theorem test_second_tick_wraps : (after .secondTick { mapped with seconds := -1 }).map (fun q => q.seconds) =
    some 0 := by decide +kernel
theorem test_second_tick_counts : (after .secondTick { mapped with comps.ff.stack := [pushed 2 .live] }).map (fun q =>
    q.comps.ff.stack) = some [pushed 1 .live] := by decide +kernel

/-! ## Tables and maps -/

theorem test_table_open : replyTo (.tableOpen (.form ⟨2, 0⟩)) mapped = some [6, 0, 0] ∧
    (after (.tableOpen (.form ⟨2, 0⟩)) mapped).map (fun q => (q.load, (q.table 2).state)) =
      some (some ⟨2, 0, .running 30⟩, .loading) := by decide +kernel
theorem test_table_open_locked : replyTo (.tableOpen (.form ⟨2, 0⟩)) { mapped with lockLevel := 3 } = some [6, 3, 0] := by
  decide +kernel
theorem test_table_data_wraps : (after (.tableData (.form ⟨2, [1, 0, 0, 0xFC, 0x18, 1, 0x0F, 0xA0, 0x1B, 0x58]⟩)) loading).map
    (fun q => (q.load, (q.table 2).fields 16, (q.table 2).fields 0, (q.table 2).fields 1)) =
    some (some ⟨2, 1, .running 30⟩, [1, 0, -1000], [1, 4000, 7000], [0, 0, 0]) := by decide +kernel
theorem test_table_data_range : replyTo (.tableData (.form ⟨2, [1, 0, 0, 0]⟩)) loading = some [7, 12, 0] := by
  decide +kernel
theorem test_table_close_invalid : replyTo (.tableClose (.form 2)) loading = some [8, 0, 0, 2, 1, 0, 0] := by
  decide +kernel
theorem test_table_close_clamped :
    let p := { serving with
      tables := serving.tables.set 14 ⟨.loading, [[200, 100], [-600, 400], [-2400, -1400]]⟩
      load := some ⟨14, 0, .running 5⟩ }
    replyTo (.tableClose (.form 14)) p = some [8, 1, 0, 14, 0, 0, 1] ∧
      (after (.tableClose (.form 14)) p).map (fun q => (q.comps.ff.spMin, q.comps.ff.spMax, q.comps.ff.base)) =
        some (200, 200, 200) := by decide +kernel
theorem test_table_abort : replyTo (.tableAbort (.form 2)) loading = some [9, 0, 1] ∧
    (after (.tableAbort (.form 2)) loading).map (fun q => (q.load, (q.table 2).state, q.flags)) =
      some (none, .invalid, 2048) := by decide +kernel
theorem test_table_read_wraps : replyTo (.tableRead (.form ⟨20, 3, 2⟩)) mapped =
    some [10, 0, 0, 20, 3, 0, 5, 1, 44, 0, 10, 1, 44] := by decide +kernel
theorem test_table_read_range : replyTo (.tableRead (.form ⟨20, 0, 9⟩)) mapped = some [10, 12, 0] := by decide +kernel
theorem test_load_timer : (after .loadTimerExpiry { loading with load := some ⟨2, 16, .running 0⟩ }).map (fun q =>
    (q.load, (q.table 2).state, q.flags)) = some (none, .invalid, 2048) := by decide +kernel
theorem test_swap_map : replyTo (.swapMap (.form 1)) Part.initial = some [11, 0, 0, 1, 0, 0] := by decide +kernel
theorem test_swap_map_range : replyTo (.swapMap (.form 2)) Part.initial = some [11, 12, 0, 0, 0, 0] := by decide +kernel

/-! ## Compartments and points -/

theorem test_set_setpoint_clamped : replyTo (.setSetpoint (.form ⟨0, 900⟩)) mapped =
    some [12, 1, 0, 2, 188, 2, 188] := by decide +kernel
theorem test_push_below_limits : replyTo (.pushOverride (.form ⟨0, 0, -1000, 600⟩)) mapped =
    some [13, 0, 0, 1, 0, 100] := by decide +kernel
theorem test_push_full : replyTo (.pushOverride (.form ⟨0, 1, 100, 0⟩))
    { mapped with comps.ff.stack := List.replicate 4 (pushed 5 .live) } = some [13, 8, 1] := by decide +kernel
theorem test_pop_empty : replyTo (.popOverride (.form 1)) mapped = some [14, 9, 1] := by decide +kernel
theorem test_pop_trims : replyTo (.popOverride (.form 0))
    { mapped with comps.ff.stack := [pushed 9 .live, pushed 0 .spent, pushed 5 .live] } =
    some [14, 0, 0, 1, 0xFF, 0x9C, 0, 0, 1, 1, 0, 200] := by decide +kernel
theorem test_clear_all : replyTo (.clearOverrides (.form 3)) { mapped with comps.cd.stack := [pushed 5 .live] } =
    some [15, 0, 0, 1, 44, 255, 156, 248, 248] := by decide +kernel
theorem test_override_expiry_top : (after (.overrideExpiry .ff 1)
    { mapped with comps.ff.stack := [pushed 0 .live, pushed 5 .live] }).map (fun q =>
      (q.comps.ff.stack, q.comps.ff.effective)) = some ([pushed 5 .live], 200) := by decide +kernel
theorem test_blind_expiry : (after (.blindTimerExpiry .ff)
    { regulating with comps.ff.demand := .blindCall, comps.ff.blind := .running 0 }).map (fun q =>
      (q.comps.ff.demand, q.comps.ff.blind)) = some (.blindRest, .running 1800) := by decide +kernel
theorem test_warm_expiry : (after (.warmAlarmExpiry .fz)
    { regulating with comps.fz.warm := .counting, comps.fz.warmCount := 7200 }).map (fun q =>
      (q.comps.fz.warm, q.flags, q.details.warm)) = some (.alarmed, 8, ⟨false, false, true⟩) := by decide +kernel
/-- R67: a PAUSED alarm past its delay expires at the value that ends LOST, and WARM stands although the pending tuning of
the same event has a higher temperature and clears the alarm. -/
theorem test_warm_raised_before_retune :
    let t : Tuning := { Tuning.initial .ff with warmTemp := 3000 }
    let q := ({ regulating with
      comps.ff.demand := .blindCall
      comps.ff.lost := true
      comps.ff.warm := .paused
      comps.ff.warmCount := 3600
      comps.ff.pending := some t
      comps.ff.effective := 2000 }).announceAir .ff (.value 1500) .ends
    q.comps.ff.warm = .clear ∧ q.comps.ff.tuning = t ∧ q.flags = 8 ∧ q.details.warm = ⟨true, false, false⟩ := by
  decide +kernel
theorem test_inject : replyTo (.injectSample (.form ⟨0, 2000⟩)) sensing =
    some [16, 0, 0, 0, 1, 11, 184, 11, 184, 0, 0] := by decide +kernel
theorem test_inject_protected : replyTo (.injectSample (.form ⟨1, 2000⟩)) sensing = some [16, 7, 0] := by decide +kernel
theorem test_stale_expiry : (after (.staleTimerExpiry 0)
    { sensing with points := sensing.points.set 0 ⟨.fresh, 500, some 750, some 900, .running 0, some ⟨500, 0, 0⟩, false⟩ }).map
      (fun q => ((q.point 0).state, (q.point 0).filtered, (q.point 0).resolved, q.flags &&& 1)) =
    some (.stale, 500, none, 1) := by decide +kernel
theorem test_conversion : convert [⟨true, 0, -1000⟩, ⟨true, 4000, 7000⟩] 2000 = some 3000 ∧
    convert [⟨true, 0, -1000⟩, ⟨true, 4000, 7000⟩] 4001 = none ∧ filterStep 1000 2 = 250 ∧ filterStep (-1) 4 = -1 := by
  decide +kernel

/-! ## The path and the defrost -/

theorem test_switch_completion : (after .switchCompletion { running with
    path.state := .switch
    path.runStarted := false
    path.switchTimer := .running 0
    path.minHold := .stopped
    path.maxHold := .stopped }).map (fun q => (q.path.state, q.path.runStarted, q.path.speed, q.path.minHold)) =
    some (.run, true, 1600, .running 120) := by decide +kernel
theorem test_minimum_hold : (after .minimumHoldExpiry { contested with path.minHold := .running 0 }).map (fun q =>
    (q.path.holder, q.path.state, q.path.speed, q.path.queue, q.offCycle)) =
    some (some .fz, .switch, 1800, [.ff], .running 600) := by decide +kernel
theorem test_minimum_hold_kept : (after .minimumHoldExpiry { running with path.minHold := .running 0 }).map (fun q =>
    (q.path.holder, q.path.minHold)) = some (some .ff, .expired) := by decide +kernel
theorem test_maximum_hold : (after .maximumHoldExpiry { contested with
    path.claims.fz := ⟨true, 2, 1, 1⟩
    path.minHold := .expired
    path.maxHold := .running 0 }).map (fun q => (q.path.holder, q.path.queue)) = some (some .fz, [.ff]) := by
  decide +kernel
theorem test_load_shed : replyTo (.loadShed (.form 0)) { running with path.speed := 4200 } =
    some [20, 0, 0, 1, 9, 96] ∧
    (after (.loadShed (.form 0)) { running with path.speed := 4200 }).map (fun q => (q.path.speed, q.path.prevSpeed)) =
      some (2400, some 2400) := by decide +kernel
theorem test_defrost_start : replyTo (.defrostStart (.form ())) serving =
    some [17, 0, 0, 1, 0, 0, 0, 0, 0, 0, 112, 128, 0] := by decide +kernel
theorem test_defrost_start_busy : replyTo (.defrostStart (.form ())) heating = some [17, 2, 0] := by decide +kernel
theorem test_defrost_due : (after .defrostDue { regulating with defrost.accumulation := 28800 }).map (fun q =>
    (q.defrost.phase, q.path.state, q.path.holder, q.defrost.heater)) =
    some (.prep, .defrost, some .df, true) := by decide +kernel
theorem test_shed_deferral : (after .shedDeferralRunOut { serving with
    seconds := 14400
    path.shed := true
    defrost.phase := .due
    defrost.dueSince := some 0
    defrost.shedCopy := true }).map (fun q => q.defrost.dfClaim) = some true := by decide +kernel
theorem test_defrost_hold : replyTo (.defrostHold (.form ())) heating = some [18, 0, 0, 3, 72, 3, 132] := by
  decide +kernel
theorem test_defrost_resume : replyTo (.defrostResume (.form ()))
    { heating with defrost.phase := .hold, defrost.heater := false, defrost.coil := some 1010 } =
    some [19, 0, 0, 5, 3, 72, 3, 132] := by decide +kernel
theorem test_heat_timeout : (after .heatTimeout { heating with defrost.heatTime := 2400 }).map (fun q =>
    (q.defrost.phase, q.flags, q.details.defrostLong)) = some (.drip, 16, 1) := by decide +kernel
theorem test_budget_exhaustion : (after .budgetExhaustion
    { heating with defrost.phase := .hold, defrost.budget := 0, defrost.heater := false }).map (fun q =>
      (q.defrost.phase, q.defrost.heater)) = some (.heat, true) := by decide +kernel
/-- R113: an abort in HEAT asks for the heater's off. -/
theorem test_abort_asks_heater_off : (after (.setMode (.form 0)) { heating with slots.heater.requested := 1 }).map
    (fun q => (q.defrost.phase, q.slots.heater.requested)) = some (.due, 0) := by decide +kernel
/-- R115: a warm coil taken before the last second's timeout leaves the heat time one below the most. -/
theorem test_coil_before_timeout :
    (({ heating with defrost.heatTime := 2400 }).announceCoil (.value 1000)).defrost.heatTime = 2399 ∧
      (heating.announceCoil (.value 1000)).defrost.heatTime = 840 := by decide +kernel
/-- R116: a HOLD taken before the timeout that waits freezes a heat time that has not reached its limit. -/
theorem test_hold_before_timeout : replyTo (.defrostHold (.form ())) { heating with defrost.heatTime := 2400 } =
    some [18, 0, 0, 9, 95, 3, 132] := by decide +kernel
/-- R118: a RESUME taken before the exhaustion of the budget keeps its last second. -/
theorem test_resume_before_exhaustion : (after (.defrostResume (.form ()))
    { heating with defrost.phase := .hold, defrost.heater := false, defrost.budget := 0 }).map (fun q =>
      (q.defrost.phase, q.defrost.budget)) = some (.heat, 1) := by decide +kernel
theorem test_drip_end : (after .dripTimerExpiry { heating with
    defrost.phase := .drip
    defrost.heater := false
    defrost.drip := .running 0
    defrost.endCause := some .terminated
    intervals := [⟨900, 43200⟩, ⟨1500, 28800⟩, ⟨2100, 18000⟩] }).map (fun q =>
      (q.defrost.phase, q.defrost.interval, q.defrost.accumulation, q.path.state, q.path.holder)) =
    some (.recover, 43200, 0, .run, some .fz) := by decide +kernel
theorem test_recover_end : (after .recoverTimerExpiry
    { serving with defrost.phase := .recover, defrost.recover := .running 0, defrost.recoverClaim := true }).map (fun q =>
      (q.defrost.phase, q.defrost.recoverClaim)) = some (.idle, false) := by decide +kernel

/-! ## Doors, outputs and trips -/

theorem test_door_read : (after (.doorRead (.form ())) { mapped with
    doors.fz := ⟨false, none, some 70, some .openLevel, true, true, .stopped, false, .stopped, false⟩ }).map (fun q =>
      (q.doors.fz.width, q.doors.fz.unread, q.doors.fz.overcapture,
        q.egress.getLast?.map fun e => e.frame.payload.drop 27)) =
    some (some 70, false, false, some [1, 0, 70, 0, 1, 1, 0, 0]) := by decide +kernel
/-- R132: an open door's second and seconds open stand in the list, 38 bytes with it; the reply is OK and the marks are
cleared whichever fields it carries. -/
theorem test_door_read_open :
    let p := { mapped with seconds := 12, doors.ffL.isOpen := true, doors.ffL.openSince := some 5, doors.cd.unread := true }
    p.captureList.flatten.length = 38 ∧ p.captureList.flatten.take 8 = [0, 0, 0, 0, 5, 0, 7, 255] ∧
      (keptFields (fun n => decide (n ≠ 0)) replyRoom p.captureList).flatten = p.captureList.flatten.take 37 ∧
      (after (.doorRead (.form ())) p).map (fun q =>
        (q.doors.cd.unread, q.egress.getLast?.map fun e => e.frame.payload.take 3)) = some (false, some [25, 0, 0]) := by
  decide +kernel
theorem test_fan_stop : (after (.fanStopTimerExpiry .fz)
    { regulating with doors.fz.isOpen := true, doors.fz.fanStop := .running 0 }).map (fun q =>
      (q.doors.fz.stopActive, q.doors.fz.fanStop)) = some (true, .stopped) := by decide +kernel
theorem test_ajar : (after (.ajarTimerExpiry .cd)
    { regulating with doors.cd.isOpen := true, doors.cd.ajar := .running 0 }).map (fun q =>
      (q.doors.cd.ajarMark, q.flags, q.details.ajar)) = some (true, 32, ⟨false, false, true, false⟩) := by decide +kernel
theorem test_refresh : (after (.refreshTimerExpiry .heater) { regulating with slots.heater.refresh := .running 0 }).map
    (fun q => (q.slots.heater.due, q.slots.heater.refresh)) = some (true, .stopped) := by decide +kernel
theorem test_off_cycle : (after .offCycleTimerExpiry { regulating with offCycle := .running 0 }).map (fun q =>
    q.offCycle) = some .stopped := by decide +kernel
theorem test_deviation : (after .deviationTimerExpiry
    { regulating with damper := .deviating, deviation := .running 0 }).map (fun q => (q.damper, q.flags)) =
    some (.flagged, 512) := by decide +kernel
/-- R154: a slot that lets nothing out is not marked changed, moved or not. -/
theorem test_none_is_not_changed : ((mapped.slot .valve).decide none).changed = false ∧
    (({ mapped.slot .valve with moved := true } : Slot).decide none).changed = false := by decide +kernel
theorem test_trip : replyTo (.trip (.form ())) running = some [21, 0, 1, 1, 2, 0, 0, 3, 232, 0, 4] ∧
    (after (.trip (.form ())) running).map (fun q => (q.path.state, q.slots.comp.requested, q.path.valve)) =
      some (.tripped, 0, .ff) := by decide +kernel
theorem test_trip_bypass : replyTo (.trip (.form ())) mapped = some [21, 4, 0] := by decide +kernel
theorem test_rearm : replyTo (.rearm (.form ())) tripped = some [22, 0, 1, 0, 0, 0, 3, 222, 0, 1] ∧
    (after (.rearm (.form ())) tripped).map (fun q => (q.trip.state, q.path.state)) = some (.normal, .off) := by
  decide +kernel
theorem test_absence_auto : (after .absenceTimerExpiry { tripped with trip.absence := .running 0 }).map (fun q =>
    (q.trip.state, q.trip.rearms, q.trip.clean)) = some (.normal, 1, .running 1800) := by decide +kernel
theorem test_absence_lockout : (after .absenceTimerExpiry
    { tripped with trip.absence := .running 0, trip.rearms := 2 }).map (fun q => (q.trip.state, q.flags)) =
    some (.lockout, 192) := by decide +kernel
theorem test_clean : (after .cleanTimerExpiry { regulating with trip.rearms := 2, trip.clean := .running 0 }).map (fun q =>
    (q.trip.rearms, q.trip.clean)) = some (0, .stopped) := by decide +kernel

/-! ## The cabinet line -/

theorem test_relay_owned_regulate : replyTo (.relayFrame ⟨20, 0, 3, [0, 8, 0]⟩) running = some [64, 4, 0, 20, 3] := by
  decide +kernel
theorem test_relay_absorbed : replyTo (.relayFrame ⟨20, 0, 3, [0, 19, 136]⟩) serving =
    some [64, 1, 0, 20, 3, 0, 16, 104, 0, 0] := by decide +kernel
theorem test_poll_due : (after (.pollDue 5) { regulating with line.times := [(5, 1000)] }).map (fun q => q.line.ms) =
    some 1000 := by decide +kernel
theorem test_frame_sent : (after .cabinetFrameSent { regulating with
    line.state := .sending
    line.cdir := .drive
    line.window := none }).map (fun q => (q.line.state, q.line.window, q.line.cdir)) =
    some (.awaiting, some 20, .receive) := by decide +kernel
theorem test_reply_sample : (after (.cabinetReply ⟨1, 5, 2, [0, 0, 7, 208]⟩) sensing).map (fun q =>
    ((q.point 0).filtered, q.egress.map fun e => e.frame.payload)) = some (3000, [[0, 5, 0, 0, 11, 184]]) := by
  decide +kernel
theorem test_reply_unmapped : (after (.cabinetReply ⟨1, 5, 2, [0, 7, 7, 208]⟩) sensing).map (fun q =>
    q.egress.map fun e => e.frame.payload) = some [[0, 5, 7, 3, 7, 208]] := by decide +kernel
theorem test_frame_discard_ends : (after .cabinetFrameDiscard { regulating with line.window := some 0 }).map (fun q =>
    (q.line.state, q.line.txn.map fun x => (x.frame.dst, x.frame.kind, x.frame.payload))) =
    some (.sending, some (20, 3, [0, 0, 0])) := by decide +kernel
theorem test_frame_discard_waits : (after .cabinetFrameDiscard regulating).map (fun q => q.line.state) =
    some .awaiting := by decide +kernel
theorem test_timeout_third : (after .replyWindowTimeout { running with
    line.txn := some ⟨⟨20, 1, kindDrive, [0, 6, 64]⟩, .slot .comp⟩
    trip.silent := 2 }).map (fun q => (q.trip.state, q.trip.first, q.trip.silent, q.slots.comp.requested)) =
    some (.tripped, some .driveSilent, 0, 0) := by decide +kernel

/-! ## Steps -/

theorem test_step_front : step ⟨mapped, [.secondTick, .mainFrameDiscard]⟩ = exec .secondTick ⟨mapped, [.mainFrameDiscard]⟩ :=
  rfl
theorem test_idle_passes_time : (match step ⟨Part.initial, []⟩ with
    | .next s => some (s.part.line.ms, s.part.seconds)
    | _ => none) = some (1, 0) := by decide +kernel

/-! ## Witnesses: states that meet the hypotheses of the statements, clause by clause -/

/-- Eight replies wait for MTX. -/
def full : Part := { mapped with egress := List.replicate 8 ⟨.reply, ⟨0, 1, kindReply, [4, 0, 0]⟩⟩ }

/-- In SHOWROOM, entered from BYPASS. -/
def showing : Part := { mapped with mode := .showroom, origin := some .bypass }

/-- In REGULATE with the line FREE, every slot's value sent and one node polled. -/
def quiet : Part :=
  { regulating with
    line := .afterReset [(5, 0)]
    slots := regulating.slots.mapWith fun _ s =>
      { s with sent := some s.requested, changed := false, refresh := .running 2 } }

/-- A relay frame to a node that no owned role has. -/
def relayed : Frame := ⟨30, 0, kindDrive, [0, 0, 1]⟩

/-- A part that waits for a reply to a frame of the given origin. -/
def waiting (p : Part) (f : Frame) (o : TxnOrigin) : Part :=
  { p with line.state := .awaiting, line.txn := some ⟨f, o⟩, line.window := some 7 }

/-- A part whose frame of the given origin goes out. -/
def sending (p : Part) (f : Frame) (o : TxnOrigin) : Part :=
  { p with line.state := .sending, line.txn := some ⟨f, o⟩, line.window := none, line.cdir := .drive }

/-- A defrost that waits behind a shed since second 0. -/
def deferred : Part :=
  { serving with path.shed := true, defrost.phase := .due, defrost.dueSince := some 0, defrost.shedCopy := true }

/-- A DRIVE frame from the main link for a role of the drive map. -/
def driveFrame (role : Role) (hi lo : Byte) : Frame :=
  ⟨BitVec.ofNat 8 (places.get role).node, 0, kindDrive, [BitVec.ofNat 8 (places.get role).channel, hi, lo]⟩

/-- With the drive map of sequence 1, a DRIVE frame for a role's place is addressed to that role. -/
theorem owned_by_places {p : Part} {r : Role} {hi lo : Byte} (h : p.driveMap = some places) :
    p.addressed (driveFrame r hi lo) r := by
  have owned : ∀ r k, ((places.get k).node = (driveFrame r 0 0).dst.toNat ∧
      some (places.get k).channel = (driveFrame r 0 0).payload.head?.map fun b => b.toNat) ↔ k = r := by
    intro r k; cases r <;> cases k <;> decide
  exact ⟨rfl, rfl, places, h, owned r⟩

/-- Compartments with empty stacks and their base in ordered limits are sound. -/
theorem sound_of_empty {p : Part} (h : ∀ c, (p.comp c).stack = [])
    (g : ∀ c, (p.comp c).spMin ≤ (p.comp c).spMax ∧ (p.comp c).spMin ≤ (p.comp c).base ∧
      (p.comp c).base ≤ (p.comp c).spMax) : p.compsSound := by
  intro c
  obtain ⟨a, b, d⟩ := g c
  refine ⟨a, b, d, ?_⟩
  rw [h c]
  exact ⟨Nat.zero_le _, nofun, Nat.zero_le _⟩

theorem witness_EndOfEventReachesOnlyTheEdge : (tripped.slot .comp).tripMark = true ∧ mapped.mode = .bypass ∧
    showing.mode = .showroom ∧ regulating.line.state ≠ .free := by decide +kernel

theorem witness_ArbiterTakesSlotsThenAlternates :
    (mapped.line.state = .free ∧ quiet.line.state = .free) ∧
    (({ regulating with line := .afterReset [] } : Part).placeAsks.screenAll.offers .comp = true ∧
      (({ regulating with line := .afterReset [] } : Part).placeAsks.screenAll.slot .comp).outgoing = some 0 ∧
      regulating.driveMap = some places) ∧
    (({ quiet with slots.damperCD.sent := none } : Part).placeAsks.screenAll.offers .damperCD = true ∧
      ∀ k, roleCode k < roleCode .damperCD →
        ({ quiet with slots.damperCD.sent := none } : Part).placeAsks.screenAll.offers k = false) ∧
    (∀ r, quiet.placeAsks.screenAll.offers r = false) ∧
    quiet.duePoll = some 5 ∧ quiet.line.relay = [] ∧
    (∀ r, ({ quiet with line.times := [] } : Part).placeAsks.screenAll.offers r = false) ∧
    ({ quiet with line.times := [] } : Part).duePoll = none ∧
    (∀ r, ({ quiet with line.relay := [relayed] } : Part).placeAsks.screenAll.offers r = false) ∧
    ({ quiet with line.relay := [relayed] } : Part).line.lastTaken = .poll ∧ quiet.ownedRole relayed = none ∧
    (driveFrame .comp 19 136).payload = [0, 19, 136] ∧ (driveFrame .heater 0 2).payload = [1, 0, 2] ∧
    (∀ r, mapped.addressed (driveFrame r 0 1) r ∧ serving.addressed (driveFrame r 0 1) r ∧
      quiet.addressed (driveFrame r 0 1) r) ∧
    mapped.mode = .bypass ∧ quiet.mode = .regulate ∧ serving.mode = .service ∧ showing.mode = .showroom ∧
    (serving.slot .comp).tripMark = false ∧ (({ tripped with mode := .service } : Part).slot .comp).tripMark = true ∧
    1 < (0 : Byte).toNat * 256 + (2 : Byte).toNat ∧ ¬1 < (0 : Byte).toNat * 256 + (1 : Byte).toNat := by
  and_intros <;> first
    | decide +kernel
    | (intro k; cases k <;> decide +kernel)
    | (intro r; cases r <;> exact ⟨owned_by_places rfl, owned_by_places rfl, owned_by_places rfl⟩)

theorem witness_MainLinkFrameDecodesToItsCommand :
    (Instr.wf (.tableData (.form ⟨2, List.replicate 38 1⟩)) = true ∧
      frameOf (.tableData (.form ⟨2, List.replicate 38 1⟩)) = some ⟨1, 0, kindRequest, 7 :: 2 :: List.replicate 38 1⟩) ∧
    (Instr.wf (.unknownRequest 0) = true ∧ frameOf (.unknownRequest 0) = some ⟨1, 0, kindRequest, [0]⟩) ∧
    Instr.wf (.relayFrame ⟨62, 0, kindPoll, []⟩) = true ∧
      frameOf (.relayFrame ⟨62, 0, kindPoll, []⟩) = some ⟨62, 0, kindPoll, []⟩ := by decide

theorem witness_RequestsDiscardedUnanswered :
    requestView (.setLock (.form 1)) = some ⟨4, false, true, false⟩ ∧
    ({ mapped with restartPending := true } : Part).restartPending = true ∧ full.restartPending = false ∧
    8 ≤ full.egress.length ∧ ∀ e, e ∈ full.egress → e.sort ≠ .readings := by decide +kernel

theorem witness_CommonChecksRefuse : mapped.answers ∧ showing.answers ∧ showing.mode = .showroom ∧
    requestView (.swapMap (.form 1)) = some ⟨11, false, true, true⟩ ∧
    requestView (.setMode .illFormed) = some ⟨3, false, false, false⟩ ∧ mapped.mode ≠ .showroom ∧
    requestView (.identify .illFormed) = some ⟨1, true, false, false⟩ := by decide +kernel

theorem witness_ReplyFindsItsPlace : ({ full with egress := full.egress.tail } : Part).egress.length = 7 ∧
    8 ≤ full.egress.length ∧ (∀ y, y ∈ full.egress → y.sort ≠ .readings) ∧
    ({ full with egress := full.egress.take 7 ++ [⟨.readings, relayed⟩] } : Part).egress =
      full.egress.take 7 ++ ⟨.readings, relayed⟩ :: [] ∧
    (∀ y, y ∈ full.egress.take 7 → y.sort ≠ .readings) := by decide +kernel

theorem witness_IdentifyAndQueryAnswer : mapped.answers ∧ subjectOf 0 15 = some (.point 15) ∧
    subjectOf 0 16 = none ∧ subjectOf 1 3 = none ∧ subjectOf 7 0 = none ∧
    35 * 0 < (mapped.subjectData (.point 15)).length ∧ (mapped.subjectData (.point 15)).length ≤ 35 * 1 := by
  decide +kernel

/-- In BYPASS with the freezer drawer open since second 5, its point at level 1. -/
def drawerOpen : Part :=
  { mapped with
    points := mapped.points.set 9 ⟨.fresh, 1, some 1, some 5, .stopped, some ⟨1, 9, 0⟩, false⟩
    doors.fz := { mapped.doors.fz with isOpen := true, openSince := some 5 } }

/-- In SHOWROOM, entered from REGULATE: FF's air is LOST, FZ's is its cut-in differential above the setpoint, and CD has
none. -/
def shownWarm : Part :=
  { showing with origin := some .regulate, comps.ff.lost := true, comps.fz.air := some (-1650) }

/-- A RECOVER in REGULATE, one second of accumulation short of the next defrost. -/
def recovering : Part :=
  { regulating with
    defrost.phase := .recover
    defrost.recover := .running 40
    defrost.recoverClaim := true
    defrost.accumulation := 28799
    path.recover := true }

theorem witness_SetModeMoves : mapped.answers ∧ mapped.mode = .bypass ∧ mapped.mapsValid = true ∧
    regulating.answers ∧ regulating.mode = .regulate ∧ regulating.defrost.phase.busy = false ∧
    serving.answers ∧ serving.mode = .service ∧ serving.mapsValid = true ∧
    showing.answers ∧ showing.mode = .showroom ∧ showing.origin = some .bypass ∧
    ({ showing with origin := some .regulate } : Part).origin = some .regulate ∧
    regulating.trip.state = .normal ∧ ({ tripped with mode := .service } : Part).trip.state ≠ .normal ∧
    heating.answers ∧ heating.mode = .regulate ∧ heating.defrost.phase.busy = true ∧ heating.defrost.heater = true ∧
    heating.slots.heater.tripMark = false ∧
    (mapped.path.state.takes = false ∧ serving.path.state.takes = false ∧ serving.trip.state = .normal ∧
      mapped.trip.state = .normal ∧ serving.claimsAgree ∧
      ({ serving with trip := tripped.trip, path.state := .tripped } : Part).trip.state ≠ .normal) ∧
    (mapped.demandsHeld ∧ mapped.resolutionsStand ∧ drawerOpen.doorsFollow ∧ drawerOpen.mode = .bypass ∧
      drawerOpen.answers ∧ drawerOpen.mapsValid = true ∧ (drawerOpen.door .fz).openSince = some 5 ∧
      (drawerOpen.door .cd).isOpen = false) ∧
    (shownWarm.answers ∧ shownWarm.mode = .showroom ∧ shownWarm.origin = some .regulate ∧ shownWarm.demandsHeld ∧
      shownWarm.comps.ff.lost = true ∧ shownWarm.comps.cd.lost = false ∧ shownWarm.comps.cd.air = none ∧
      shownWarm.comps.fz.lost = false ∧ shownWarm.comps.fz.air = some (-1650) ∧
      shownWarm.comps.fz.tuning.dIn = -1650 - shownWarm.comps.fz.effective) ∧
    (quiet.answers ∧ quiet.mode = .regulate ∧ quiet.line.state = .free ∧ quiet.line.drained ∧
      (quiet.slot .comp).tripMark = false) ∧
    (recovering.answers ∧ recovering.defrost.phase = .recover ∧
      recovering.defrost.accumulation + 1 = recovering.defrost.interval ∧
      { recovering with defrost.accumulation := 28800 }.defrost.interval = 28800) := by
  and_intros <;> first
    | decide +kernel
    | (intro _ c; cases c <;> decide +kernel)
    | (intro i d h; cases d <;> revert h <;> revert i <;> decide +kernel)
    | (intro h; decide +kernel)

theorem witness_SetModeAnswersWithoutMoving : mapped.serves ∧ mapped.mode = .bypass ∧ 4 < (5 : Byte).toNat ∧
    regulating.serves ∧ regulating.mode = .regulate ∧ serving.serves ∧ serving.mode = .service ∧
    Part.initial.serves ∧ Part.initial.mapsValid = false ∧
    heating.serves ∧ heating.mode = .regulate ∧ heating.defrost.phase.busy = true := by decide +kernel

theorem witness_SetLockWritesOnce : mapped.serves ∧ mapped.lockWritten = false ∧ 3 < (4 : Byte).toNat ∧
    (3 : Byte).toNat ≤ 3 ∧ ({ mapped with lockWritten := true } : Part).serves ∧
    ({ mapped with lockWritten := true } : Part).lockWritten = true := by decide +kernel

theorem witness_OwnersAloneChangeTheirState : (∃ t, exec .secondTick ⟨running, []⟩ = .next t) ∧
    (∀ a, Instr.secondTick ≠ .setLock a) ∧ (∀ a, Instr.secondTick ≠ .setAttentionMask a) ∧
    (∀ a, Instr.secondTick ≠ .setMode a) ∧ (∀ a, Instr.secondTick ≠ .swapMap a) ∧
    Instr.secondTick ≠ .powerOnReset ∧ Instr.secondTick ≠ .restartTakesEffect ∧
    (∃ t, exec .switchCompletion ⟨running, []⟩ = .next t) ∧ Instr.switchCompletion ≠ .secondTick := by
  and_intros <;> first | exact ⟨_, rfl⟩ | decide | (intro a h; cases h)

theorem witness_ClearFaultsAndMask : tripped.serves ∧ (4095 : Half).toNat < 4096 ∧ 4096 ≤ (4096 : Half).toNat ∧
    (64 : Half).getLsbD Flag.trip.row = true ∧ (64 : Half).getLsbD Flag.lockout.row = false ∧
    (18 : Half).getLsbD 1 = true ∧ (18 : Half).getLsbD 5 = false ∧ (32 : Half).getLsbD 5 = true ∧
    (18 : Half).getLsbD 4 = true ∧ (32 : Half).getLsbD 4 = false := by decide +kernel

theorem witness_EgressAndPendingRestart : serving.serves ∧ serving.egress.length < 8 ∧
    full.egress = ⟨.reply, ⟨0, 1, kindReply, [4, 0, 0]⟩⟩ :: full.egress.tail ∧ full.restartPending = false ∧
    (∃ x, x ∈ [(⟨.restartReply, relayed⟩ : Egress)] ∧ x.sort = .restartReply) ∧ mapped.egress = [] ∧
    ({ full with restartPending := true } : Part).restartPending = true ∧
    (∀ x, x ∈ ({ full with restartPending := true } : Part).egress → x.sort ≠ .restartReply) ∧
    let q : Part := { full with egress := full.egress.tail ++ [⟨.readings, ⟨0, 1, kindReadings, [0, 5]⟩⟩] }
    q.serves ∧ 8 ≤ q.egress.length ∧ (q.egress.getLast?.map fun x => x.sort) = some .readings ∧
      ∀ y, y ∈ full.egress.tail → y.sort ≠ .readings := by
  decide +kernel

theorem witness_ResetsOfTheManagementUnit :
    let p := { loading with restartPending := true, seconds := 40, compStop := some 10 }
    p.restartPending = true ∧ (∀ x, x ∈ p.egress → x.sort ≠ .restartReply) ∧ p.load = some ⟨2, 16, .running 12⟩ ∧
      p.compStop = some 10 ∧ p.heaterOff = some 0 ∧
      ({ deferred with restartPending := true } : Part).defrost.phase = .due ∧ deferred.defrost.dueSince = some 0 ∧
      ({ mapped with restartPending := true } : Part).load = none := by decide +kernel

theorem witness_WarmRestartOfTheBlocks :
    (({ heating with restartPending := true } : Part).restartPending = true ∧ heating.egress = [] ∧
      heating.defrost.phase.busy = true) ∧
    (mapped.defrost.phase = .idle ∧ mapped.defrost.accumulation < mapped.defrost.interval) ∧
    ({ mapped with defrost.accumulation := 28800 } : Part).defrost.interval ≤
      ({ mapped with defrost.accumulation := 28800 } : Part).defrost.accumulation := by decide +kernel

theorem witness_TableOpenChecksAndLoads : mapped.serves ∧ 20 < (21 : Byte).toNat ∧
    entryCount 2 ≤ (17 : Byte).toNat ∧ (16 : Byte).toNat < entryCount 2 ∧ loading.serves ∧ loading.load ≠ none ∧
    mapped.load = none ∧ (0 < lockLevelOf 2 ∧ lockLevelOf 2 ≤ ({ mapped with lockLevel := 3 } : Part).lockLevel) ∧
    lockLevelOf 20 = 0 ∧ mapped.lockLevel < lockLevelOf 0 ∧ (0 : TableId) = mapped.activeMap.table ∧
    (1 : TableId) ≠ mapped.activeMap.table := by decide +kernel

theorem witness_TableDataStoresInTurn : mapped.serves ∧ mapped.load = none ∧ loading.serves ∧
    loading.load = some ⟨2, 16, .running 12⟩ ∧ [(1 : Byte), 0, 0, 0].length % entrySize 2 ≠ 0 ∧
    (∀ e, e ∈ [[1, 0, -1000], [255, 65535, 32767]] → e.length = (tableForms 2).length ∧
      (List.zipWith Form.fits (tableForms 2) e).all (fun b => b) = true) ∧
    ([1, 0, 0, 0xFC, 0x18, 0xFF, 0xFF, 0xFF, 0x7F, 0xFF] : List Byte) =
      ([[1, 0, -1000], [255, 65535, 32767]].map (writeEntry (tableForms 2))).flatten ∧
    16 < entryCount 2 ∧ (loading.table 2).entries.length = entryCount 2 := by decide +kernel

/-- FF's run with P0 FRESH at the value its compartment holds. -/
def settled : Part :=
  { running with points := running.points.set 0 ⟨.fresh, 420, some 710, some 999, .running 10, some ⟨420, 0, 0⟩, false⟩ }

/-- A load of the given table is open. -/
def opened (p : Part) (t : TableId) : Part :=
  { p with tables := p.tables.set t { p.table t with state := .loading }, load := some ⟨t, 0, .running 3⟩ }

/-- A resolved value of 10.00 °C at FZ_COIL. -/
def warmCoil (p : Part) : Part :=
  { p with
    points := p.points.set 4 ⟨.fresh, 1000, some 1000, some 0, .running 10, some ⟨1000, 4, 0⟩, false⟩
    defrost.coil := some 1000 }

/-- A trip whose absence timer ran out while TRIP_SET had auto-rearm off, after one auto-rearm. -/
def rearming : Part :=
  { tripped with trip.absence := .expired, trip.rearms := 1, trip.clean := .running 900, tripSet.autoRearm := false }

theorem witness_TableCloseJudges : mapped.serves ∧ mapped.load = none ∧ loading.serves ∧
    loading.load = some ⟨2, 16, .running 12⟩ ∧ (2 : TableId).val = (2 : Byte).toNat ∧ loading.resolutionsStand ∧
    ((opened contested 16).serves ∧ (opened contested 16).load = some ⟨16, 0, .running 3⟩ ∧
      (opened contested 16).comps.ff.demand = .calling ∧ (opened contested 16).comps.cd.demand = .idle) ∧
    ((opened serving 14).resolutionsStand ∧ serving.active = true ∧ mapped.active = false ∧ serving.claimsAgree ∧
      ∀ e, e ∈ ((opened serving 14).table 14).entries → e.length = (tableForms 14).length) ∧
    ((⟨.loading, [[100, 700], [-600, 400], [-2400, -1400]]⟩ : Table).fields (compCode .cd) = [-600, 400]) ∧
    ((opened settled 15).resolutionsStand ∧ (opened settled 15).path.state = .run ∧
      (opened settled 15).path.runStarted = true ∧ (opened settled 15).path.satisfied = false) ∧
    ((opened { heating with defrost.heatTime := 2400 } 15).resolutionsStand ∧
      (opened { heating with defrost.heatTime := 2400 } 15).defrost.phase = .heat) ∧
    ((opened (warmCoil heating) 18).resolutionsStand ∧ (opened (warmCoil heating) 18).defrost.coil = some 1000) ∧
    ((opened deferred 18).resolutionsStand ∧ (opened deferred 18).defrost.phase = .due ∧
      (opened deferred 18).defrost.dueSince = some 0 ∧ (opened deferred 18).claimsAgree ∧ deferred.defrost.shedCopy = true ∧
      defrostSetOf [28800, 10, 1000, -500, 300, 14400] = deferred.defrostSet ∧ deferred.defrostSet.maxDeferral = 14400) ∧
    ((opened rearming 13).resolutionsStand ∧ (opened rearming 13).serves ∧ rearming.trip.state = .tripped ∧
      rearming.trip.absence = .expired ∧ rearming.trip.causes.hostTrip = false ∧ rearming.trip.rearms = 1 ∧
      rearming.path.state = .tripped ∧ rearming.mode = .regulate ∧
      (tripSetOf (((opened rearming 13).table 13).fields 0)).autoRearm = true ∧
      ({ rearming with trip.rearms := 2 } : Part).trip.rearms = 2) ∧
    ((opened mapped 11).resolutionsStand ∧ driveRules ((mapped.table 11).entries.map locationOf) ∧
      ({ mapped with driveMap := none } : Part).driveMap.map (fun m => m.get .comp) ≠
        mapped.driveMap.map (fun m => m.get .comp)) := by
  and_intros <;> decide +kernel

theorem witness_LoadFailures : mapped.serves ∧ mapped.load = none ∧ loading.serves ∧
    loading.load = some ⟨2, 16, .running 12⟩ ∧ (2 : TableId).val = (2 : Byte).toNat ∧
    (Timer.running 12 ≠ .running 0) ∧
    ({ loading with load := some ⟨2, 16, .running 0⟩ } : Part).load = some ⟨2, 16, .running 0⟩ := by decide +kernel

theorem witness_TableReadGivesStoredEntries : mapped.serves ∧ 20 < (21 : Byte).toNat ∧ (20 : TableId).val = (20 : Byte).toNat ∧
    entryCount 20 ≤ (4 : Byte).toNat ∧ 37 - 2 < (9 : Byte).toNat * entrySize 20 ∧ (3 : Byte).toNat < entryCount 20 ∧
    0 < (8 : Byte).toNat ∧ (8 : Byte).toNat * entrySize 20 ≤ 37 - 2 ∧ (7 : Byte).toNat * entrySize 2 = 37 - 2 := by
  decide +kernel

theorem witness_SwapMapMovesTheSelector : mapped.serves ∧ 1 < (2 : Byte).toNat ∧ (1 : Byte).toNat ≤ 1 ∧
    MapSel.a = mapped.activeMap ∧ MapSel.b ≠ mapped.activeMap ∧ (mapped.table MapSel.b.table).state = .valid ∧
    (({ mapped with tables := mapped.tables.set 1 ⟨.loading, []⟩ } : Part).table MapSel.b.table).state = .loading ∧
    (({ mapped with tables := mapped.tables.set 1 ⟨.invalid, []⟩ } : Part).table MapSel.b.table).state = .invalid := by
  decide +kernel

theorem witness_SetSetpointStoresTheBase : mapped.serves ∧ compOf 3 = none ∧ compOf 2 = some .fz ∧
    running.serves ∧ running.active = true ∧ mapped.active = false ∧ (701 : Half).toInt > mapped.comps.ff.spMax ∧
    (700 : Half).toInt = mapped.comps.ff.spMax ∧ (100 : Half).toInt = mapped.comps.ff.spMin := by decide +kernel

theorem witness_PushOverridePlacesAnEntry : mapped.serves ∧ 2 < (3 : Byte).toNat ∧ 1 < (2 : Byte).toNat ∧
    (-4001 : Half).toInt < -4000 ∧ 6000 < (6001 : Half).toInt ∧ (-1001 : Half).toInt < -1000 ∧
    1000 < (1001 : Half).toInt ∧ compOf 0 = some .ff ∧ kindOf 0 = some .absolute ∧ kindOf 1 = some .offset ∧
    (-4000 ≤ (6000 : Half).toInt ∧ (6000 : Half).toInt ≤ 6000) ∧ -1000 ≤ (-1000 : Half).toInt ∧
    4 ≤ (({ mapped with comps.ff.stack := List.replicate 4 (pushed 5 .live) } : Part).comp .ff).stack.length ∧
    (({ mapped with comps.ff.stack := List.replicate 3 (pushed 5 .live) } : Part).comp .ff).stack.length < 4 := by
  decide +kernel

theorem witness_PopAndClearOverrides : mapped.serves ∧ 2 < (3 : Byte).toNat ∧ 3 < (4 : Byte).toNat ∧
    compOf 0 = some .ff ∧ (mapped.comp .ff).stack = [] ∧
    (({ mapped with comps.ff.stack := [pushed 9 .live, pushed 0 .spent, pushed 5 .live] } : Part).comp .ff).stack =
      pushed 9 .live :: ([pushed 0 .spent] ++ [pushed 5 .live]) ∧
    (∀ x, x ∈ [pushed 0 .spent] → x.tag = .spent) ∧ [pushed 5 .live].head? = some (pushed 5 .live) ∧
    (3 : Byte).toNat ≤ 3 ∧ mapped.compsSound ∧ (∀ c, (mapped.comp c).effective = (mapped.comp c).ruled) ∧
    compOf 1 = some .cd ∧ (1 : Byte).toNat ≠ 3 ∧ compOf 1 ≠ some .fz ∧
    (({ mapped with comps.ff.stack := [pushed 5 .live] } : Part).comp .ff).stack ≠ [] := by
  and_intros <;> first
    | decide +kernel
    | exact sound_of_empty (by intro c; cases c <;> rfl) (by intro c; cases c <;> decide +kernel)
    | (intro c; cases c <;> decide +kernel)

theorem witness_OverrideExpirySpendsTheEntry :
    (({ mapped with comps.ff.stack := [pushed 0 .live, pushed 0 .spent, pushed 5 .live] } : Part).comp .ff).stack =
      [] ++ pushed 0 .live :: ([pushed 0 .spent] ++ [pushed 5 .live]) ∧
    (({ mapped with comps.ff.stack := [pushed 9 .live, pushed 0 .live] } : Part).comp .ff).stack =
      [pushed 9 .live] ++ pushed 0 .live :: [] ∧
    (pushed 0 .live).tag = .live ∧ (pushed 0 .live).duration ≠ 0 ∧ (pushed 0 .live).remaining = 0 ∧
    (∀ x, x ∈ [pushed 0 .spent] → x.tag = .spent) ∧ (pushed 9 .live).tag = .live ∧
    (pushed 1 .live).remaining ≠ 0 ∧ (pushed 0 .spent).tag = .spent := by decide +kernel

theorem witness_EffectiveSetpointFollowsTheStack :
    (∀ c, (running.comp c).spMin ≤ (running.comp c).base ∧ (running.comp c).base ≤ (running.comp c).spMax) ∧
    (∀ c, (running.comp c).effective = (running.comp c).ruled) ∧
    (∃ t, step ⟨running, [.pushOverride (.form ⟨0, 1, 100, 600⟩)]⟩ = .next t) ∧
    (running.comp .ff).spMin ≤ (running.comp .ff).spMax := by
  refine ⟨?_, ?_, ⟨_, rfl⟩, by decide +kernel⟩ <;> intro c <;> cases c <;> decide +kernel

theorem witness_BlindAndWarmExpiries :
    let p := { regulating with comps.ff.demand := .blindCall, comps.ff.blind := .running 0 }
    (p.comp .ff).blind = .running 0 ∧ (p.comp .ff).demand = .blindCall ∧ (p.comp .ff).pending = none ∧
    (({ p with comps.ff.pending := some (Tuning.initial .cd) } : Part).comp .ff).pending = some (Tuning.initial .cd) ∧
    (({ p with comps.ff.demand := .blindRest } : Part).comp .ff).demand = .blindRest ∧
    (regulating.comp .ff).blind ≠ .running 0 ∧ (regulating.comp .ff).warm ≠ .counting ∧
    (({ regulating with comps.fz.warm := .counting, comps.fz.warmCount := 7200 } : Part).comp .fz).tuning.warmDelay ≤
      (({ regulating with comps.fz.warm := .counting, comps.fz.warmCount := 7200 } : Part).comp .fz).warmCount ∧
    (({ regulating with comps.fz.warm := .counting, comps.fz.warmCount := 7199 } : Part).comp .fz).warmCount <
      (({ regulating with comps.fz.warm := .counting, comps.fz.warmCount := 7199 } : Part).comp .fz).tuning.warmDelay ∧
    (regulating.mode = .regulate ∧ serving.mode = .service ∧ mapped.mode ≠ .regulate ∧ mapped.mode ≠ .service) ∧
    ((running.comp .ff).demand = .calling ∧ (running.comp .ff).pending = none ∧ (running.comp .cd).demand = .idle ∧
      ((running.announceAir .ff (.value 300) .same).comp .ff).demand = .calling ∧
      ((running.announceAir .ff (.value 200) .same).comp .ff).demand = .idle ∧
      ((running.announceAir .cd (.value 0) .same).comp .cd).demand = .calling) ∧
    (((running.announceAir .ff .noValue .begins).comp .ff).demand = .blindCall ∧
      ((running.announceAir .ff .noValue .same).comp .ff).demand = .waiting) ∧
    (({ running with comps.fz.warm := .paused, comps.fz.warmCount := 7200 } : Part).announceAir .fz
      (.value (running.comp .fz).tuning.warmTemp) .same).comps.fz.warm = .alarmed ∧
    running.claimsAgree := by
  and_intros <;> decide +kernel

theorem witness_InjectSampleRefusedOrHeld : mapped.answers ∧ mapped.mode = .bypass ∧ sensing.answers ∧
    sensing.active = true ∧ 15 < (16 : Byte).toNat ∧ 4095 < (4096 : Half).toNat ∧ (15 : PointId).val = (15 : Byte).toNat ∧
    (4095 : Half).toNat ≤ 4095 ∧ sensing.entryFor 15 = none ∧
    sensing.entryFor 1 = some ⟨true, 5, 1, 1, 0, 0, 0, 0, true⟩ ∧ sensing.entryFor 0 = some ⟨true, 5, 0, 0, 0, 0, 2, 0, false⟩ ∧
    ({ sensing with tables := sensing.tables.set 2 ⟨.invalid, []⟩ } : Part).entryFor 0 =
      some ⟨true, 5, 0, 0, 0, 0, 2, 0, false⟩ ∧
    ({ sensing with tables := sensing.tables.set 2 ⟨.invalid, []⟩ } : Part).validCurve 0 = none := by decide +kernel

theorem witness_InjectSampleDelivers : sensing.answers ∧ sensing.active = true ∧
    sensing.entryFor 0 = some ⟨true, 5, 0, 0, 0, 0, 2, 0, false⟩ ∧
    sensing.entryFor 6 = some ⟨true, 5, 2, 6, 0, 0, 0, 0, false⟩ ∧
    sensing.validCurve 0 = some [⟨true, 0, -1000⟩, ⟨true, 4000, 7000⟩] ∧
    convert [⟨true, 0, -1000⟩, ⟨true, 4000, 7000⟩] (4000 : Half).toNat = some 7000 ∧
    convert [⟨true, 0, -1000⟩, ⟨true, 4000, 7000⟩] (4001 : Half).toNat = none ∧
    (2047 : Half).toNat < 2048 ∧ 2048 ≤ (2048 : Half).toNat ∧ (sensing.point 0).state = .unseen ∧
    (({ sensing with points := sensing.points.set 0 ⟨.faulty, 5, none, none, .stopped, none, true⟩ } : Part).point 0).state =
      .faulty := by decide +kernel

theorem witness_StaleTimerExpiry :
    let p := { sensing with points := sensing.points.set 0 ⟨.unseen, 0, none, none, .running 0, none, false⟩ }
    (p.point 0).stale = .running 0 ∧ (p.point 0).state = .unseen ∧ p.pointSet[(0 : PointId)].fallback = none ∧
    p.targeted 0 = true ∧ (p.point 15).stale ≠ .running 0 ∧
    ({ sensing with points := sensing.points.set 15 ⟨.fresh, 0, none, none, .running 0, none, false⟩ } : Part).targeted 15 =
      false := by decide +kernel

theorem witness_ConversionAndFilter :
    ascending (([⟨true, 0, -1000⟩] ++ ⟨true, 100, 0⟩ :: ⟨true, 4000, 7000⟩ :: [] : List Knot).map fun k => k.count) = true ∧
    (100 < 101 ∧ 101 ≤ 4000 ∧ 4000 ≤ 4000) ∧
    ([⟨true, 10, -1000⟩, ⟨true, 4000, 7000⟩] : List Knot).getLast?.any (fun z => decide (z.count < 4001)) = true ∧ 9 < 10 ∧
    (2 : Int) * |5 - 2 * roundDiv 5 2| = 2 ∧
    (2 * |(-7 : Int)| < 2 ^ 4 ∧ 2 ^ 4 ≤ 2 * |(-8 : Int)| ∧ roundDiv (-8) (2 ^ 4) = -1) ∧
    sensing.mode ≠ .bypass ∧ (0 : PointId).val < 6 ∧ 9 < (15 : PointId).val ∧
    sensing.validCurve 0 = some [⟨true, 0, -1000⟩, ⟨true, 4000, 7000⟩] ∧
    convert [⟨true, 0, -1000⟩, ⟨true, 4000, 7000⟩] 4000 = some 7000 ∧
    convert [⟨true, 0, -1000⟩, ⟨true, 4000, 7000⟩] 4001 = none ∧
    -4000 ≤ (sensing.point 0).filtered ∧ (sensing.point 0).filtered ≤ 6000 := by decide +kernel

theorem witness_DoorTransitions :
    let p := { regulating with doors.cd.isOpen := true, doors.cd.openSince := some 940, doors.cd.ajar := .running 9 }
    (regulating.door .cd).isOpen = false ∧ (p.door .cd).isOpen = true ∧ (p.door .cd).openSince = some 940 ∧
    p.active = true ∧ ({ p with mode := .bypass } : Part).active = false ∧
    min 65535 (p.seconds - 940).toNat = 60 ∧ (p.comp (doorComp .cd)).tuning.doorMin = 60 ∧
    min 65535 (p.seconds - 941).toNat < (p.comp (doorComp .cd)).tuning.doorMin ∧
    (p.comp .cd).stack.any Override.liveDoor = false ∧ (p.comp .cd).stack.length < 4 ∧
    4 ≤ (({ p with comps.cd.stack := List.replicate 4 (pushed 5 .live) } : Part).comp .cd).stack.length ∧
    (({ p with comps.cd.stack := [⟨.offset, -100, 600, 3, .door, .live⟩] } : Part).comp .cd).stack.any Override.liveDoor =
      true := by decide +kernel

theorem witness_DoorReadReportsAndClears : mapped.serves ∧ (∀ d, (mapped.door d).isOpen = false) ∧ drawerOpen.serves ∧
    (drawerOpen.door .fz).isOpen = true := by
  refine ⟨by decide +kernel, fun d => by cases d <;> decide +kernel, by decide +kernel, by decide +kernel⟩

/-- FF's switch has run out. -/
def switching : Part :=
  { running with
    path.state := .switch
    path.runStarted := false
    path.switchTimer := .running 0
    path.minHold := .stopped
    path.maxHold := .stopped }

theorem witness_SwitchCompletes :
    switching.path.state = .switch ∧ switching.path.switchTimer = .running 0 ∧ switching.path.holder = some .ff ∧
    (switching.path.claims.get .ff).raised = true ∧ switching.path.queue = [] ∧ switching.compSent ≠ 0 ∧
    ({ switching with slots.comp.sent := some 0 } : Part).compSent = 0 ∧
    (({ switching with path.claims.ff := ⟨false, 2, 0, 0⟩ } : Part).path.claims.get .ff).raised = false ∧
    (({ switching with path.queue := [.fz], path.claims.fz := ⟨true, 1, 1, 1⟩ } : Part).path.claims.get .fz).cls <
      (switching.path.claims.get .ff).cls ∧
    (({ switching with path.queue := [.fz], path.claims.fz := ⟨true, 2, 1, 1⟩ } : Part).path.claims.get .ff).cls ≤
      (({ switching with path.queue := [.fz], path.claims.fz := ⟨true, 2, 1, 1⟩ } : Part).path.claims.get .fz).cls ∧
    (({ switching with path.queue := [.df] } : Part).path.claims.df.cls < (switching.path.claims.get .ff).cls) ∧
    running.path.state ≠ .switch := by decide +kernel

theorem witness_HoldTimersExpire :
    contested.path.state = .run ∧ contested.path.runStarted = true ∧ contested.path.holder = some .ff ∧ contested.keysSound ∧
    running.keysSound ∧ running.path.queue = [] ∧
    ({ contested with path.minHold := .running 0 } : Part).path.minHold = .running 0 ∧ contested.path.satisfied = false ∧
    ({ running with path.satisfied := true } : Part).path.satisfied = true ∧
    contested.path.queue.head? = some .fz ∧ (contested.path.claims.get .fz).cls ≤ 1 ∧
    (contested.path.claims.get .fz).cls ≤ (contested.path.claims.get .ff).cls ∧ contested.path.minHold ≠ .running 0 ∧
    ({ contested with path.maxHold := .running 0 } : Part).path.maxHold = .running 0 ∧ contested.path.minHold ≠ .expired ∧
    ({ contested with path.claims.ff := ⟨true, 0, 0, 0⟩ } : Part).path.claims.ff.cls < (contested.path.claims.get .fz).cls ∧
    (contested.path.queue = .fz :: [] ∧ (contested.path.claims.get .ff).raised = true ∧
      ({ contested with path.claims.ff := ⟨false, 2, 0, 0⟩ } : Part).path.claims.ff.raised = false) := by
  and_intros <;> first | decide +kernel | (intro k; cases k <;> decide +kernel)

/-- In REGULATE, the path OFF, a defrost that waits behind a shed since second 0. -/
def shedDue : Part :=
  { regulating with path.shed := true, defrost.phase := .due, defrost.dueSince := some 0, defrost.shedCopy := true }

/-- R97, R112, R81: the end of a shed in DUE raises the DF claim, which is granted at once in OFF. -/
theorem test_shed_end_grants_df : (after (.loadShed (.form 1)) shedDue).map
    (fun q => (q.path.state, q.path.speed, q.defrost.phase)) = some (.defrost, 0, .prep) := by
  decide +kernel

theorem witness_LoadShedSetsTheMark : running.serves ∧ 1 < (2 : Byte).toNat ∧ (1 : Byte).toNat ≤ 1 ∧
    running.path.shed = false ∧ running.defrost.phase ≠ .due ∧ 0 < running.pathLimits.sMin ∧
    running.pathLimits.sMin ≤ running.pathLimits.sMax ∧
    ({ running with defrost.phase := .due } : Part).defrost.phase = .due ∧
    ({ running with path.shed := true } : Part).path.shed = true ∧
    shedDue.serves ∧ shedDue.path.shed = true ∧ shedDue.defrost.phase = .due ∧ shedDue.defrost.dfClaim = false ∧
    shedDue.pathLaw ∧ shedDue.classesSound ∧ shedDue.path.state = .off := by
  unfold Part.pathLaw Part.classesSound
  and_intros <;> first
    | decide +kernel
    | (intro k; cases k <;> decide +kernel)
    | (intro _ k; cases k <;> decide +kernel)
    | exact (rfl : _ = true)

/-- A drip that has run out, with the rows of sequence 3 of spec/11. -/
def dripped : Part :=
  { heating with
    defrost.phase := .drip
    defrost.heater := false
    defrost.drip := .running 0
    defrost.endCause := some .terminated
    intervals := [⟨900, 43200⟩, ⟨1500, 28800⟩, ⟨2100, 18000⟩] }

theorem witness_DefrostFallsDue : regulating.defrost.phase = .idle ∧ regulating.defrost.dfClaim = false ∧
    ({ regulating with defrost.accumulation := 28800 } : Part).defrost.interval ≤
      ({ regulating with defrost.accumulation := 28800 } : Part).defrost.accumulation ∧
    regulating.serves ∧ regulating.defrost.accumulation < regulating.defrost.interval ∧ regulating.path.state.takes = true ∧
    serving.path.state.takes = false ∧ deferred.serves ∧ deferred.defrost.phase = .due ∧ heating.serves ∧
    heating.defrost.phase ≠ .idle ∧ heating.defrost.phase ≠ .due ∧ deferred.defrost.dueSince = some 0 ∧
    deferred.defrost.shedCopy = true ∧ 0 < deferred.defrostSet.maxDeferral ∧ deferred.defrost.dfClaim = false ∧
    deferred.defrostSet.maxDeferral ≤ (({ deferred with seconds := 14400 } : Part).seconds - 0).toNat ∧
    (({ deferred with seconds := 14399 } : Part).seconds - 0).toNat < deferred.defrostSet.maxDeferral ∧
    (regulating.pathLaw ∧ regulating.classesSound) ∧ (contested.pathLaw ∧ contested.classesSound) ∧
    (serving.pathLaw ∧ deferred.pathLaw ∧ deferred.classesSound) := by
  unfold Part.pathLaw
  and_intros <;> first
    | decide +kernel
    | (intro k; cases k <;> decide +kernel)
    | (intro _ k; cases k <;> decide +kernel)
    | exact (rfl : _ = true)
    | exact (rfl : PathState.service = .service)

theorem witness_DefrostHoldAndResume : mapped.serves ∧ mapped.defrost.phase ≠ .heat ∧ mapped.defrost.phase ≠ .hold ∧
    heating.serves ∧ heating.defrost.phase = .heat ∧ heating.defrost.budget ≠ 0 ∧
    ({ heating with defrost.budget := 0 } : Part).defrost.budget = 0 ∧
    ({ heating with defrost.phase := .hold } : Part).defrost.phase = .hold ∧
    (∀ t, heating.defrost.coil = some t → t < heating.defrostSet.terminate) ∧
    heating.defrost.heatTime < heating.pathLimits.maxHeat ∧
    ({ heating with defrost.heatTime := 2400 } : Part).defrost.phase = .heat ∧
    heating.pathLimits.maxHeat ≤ ({ heating with defrost.heatTime := 2400 } : Part).defrost.heatTime ∧
    ({ heating with defrost.coil := some 1000 } : Part).defrost.coil = some 1000 ∧ heating.defrostSet.terminate ≤ 1000 ∧
    999 < heating.defrostSet.terminate ∧
    heating.pathLimits.maxHeat ≤ ({ heating with defrost.phase := .hold, defrost.heatTime := 2400 } : Part).defrost.heatTime ∧
    ({ heating with defrost.phase := .hold, defrost.heatTime := 2399 } : Part).defrost.heatTime <
      heating.pathLimits.maxHeat ∧
    ({ heating with defrost.phase := .hold, defrost.budget := 0 } : Part).defrost.budget = 0 := by
  decide +kernel

theorem witness_HeatAndHoldEnd : heating.defrost.phase = .heat ∧
    heating.pathLimits.maxHeat ≤ ({ heating with defrost.heatTime := 2400 } : Part).defrost.heatTime ∧
    ({ heating with defrost.heatTime := 2399 } : Part).defrost.heatTime < heating.pathLimits.maxHeat ∧
    mapped.defrost.phase ≠ .heat ∧ mapped.defrost.phase ≠ .hold ∧
    ({ heating with defrost.phase := .hold, defrost.budget := 0 } : Part).defrost.budget = 0 ∧
    ({ heating with defrost.phase := .hold, defrost.budget := 1 } : Part).defrost.budget ≠ 0 ∧
    ({ heating with defrost.coil := some 1000 } : Part).defrost.coil = some 1000 ∧ heating.defrostSet.terminate ≤ 1000 ∧
    (∀ t, ({ heating with defrost.coil := some 999 } : Part).defrost.coil = some t → t < heating.defrostSet.terminate) := by
  decide +kernel

/-- The drip has run out while FF waits urgent and FZ behind it. -/
def dripContested : Part :=
  { dripped with
    path.queue := [.ff, .fz]
    path.claims.ff := ⟨true, 1, 1, 1⟩
    path.claims.fz := ⟨true, 2, 2, 2⟩
    path.fzRaised := true
    path.nextKey := 3
    comps.ff.demand := .calling
    comps.ff.urgent := true
    comps.fz.demand := .calling }

theorem witness_DripAtTheHandOver : dripped.pathLaw ∧ dripped.classesSound ∧ dripped.path.queue = [] ∧
    dripContested.pathLaw ∧ dripContested.classesSound ∧ dripContested.path.queue.head? = some .ff ∧
    dripContested.path.claims.ff.cls = 1 := by
  refine ⟨?_, by unfold Part.classesSound; decide +kernel, rfl, ?_, by unfold Part.classesSound; decide +kernel, rfl, rfl⟩
  all_goals
    unfold Part.pathLaw
    and_intros <;> first
      | decide +kernel
      | (intro k; cases k <;> decide +kernel)
      | (intro _ k; cases k <;> decide +kernel)
      | exact (rfl : _ = true)

theorem witness_DripAndRecoverEnd : dripped.defrost.phase = .drip ∧ dripped.defrost.drip = .running 0 ∧
    dripped.path.state = .defrost ∧ dripped.path.holder = some .df ∧ dripped.path.claims.df.raised = true ∧
    dripped.path.claims.df.cls = 0 ∧ dripped.path.claims.fz.raised = false ∧
    (∀ k, k ∈ ({ dripped with path.queue := [.ff] } : Part).path.queue → k = .ff ∧ dripped.path.claims.ff.cls = 2) ∧
    heating.defrost.phase ≠ .drip ∧
    ({ serving with defrost.phase := .recover, defrost.recover := .running 0 } : Part).defrost.recover = .running 0 ∧
    serving.defrost.dfClaim = false ∧ serving.defrost.accumulation < serving.defrost.interval ∧
    serving.defrost.phase ≠ .recover ∧ serving.path.claims.df.raised = false ∧
    (serving.defrostSet.recoverFan < serving.defrostSet.recoverFan + 1 ∧
      serving.defrostSet.recoverFan ≤ serving.defrostSet.recoverFan) ∧
    ({ serving with defrost.accumulation := 28800 } : Part).defrost.interval ≤
      ({ serving with defrost.accumulation := 28800 } : Part).defrost.accumulation := by decide +kernel

theorem witness_OutputTimersExpire : regulating.polls = true ∧ mapped.polls = false ∧
    (({ regulating with doors.fz.fanStop := .running 0, doors.fz.ajar := .running 0 } : Part).door .fz).fanStop = .running 0 ∧
    (({ regulating with doors.fz.fanStop := .running 0, doors.fz.ajar := .running 0 } : Part).door .fz).ajar = .running 0 ∧
    (regulating.door .fz).fanStop ≠ .running 0 ∧ regulating.mode ≠ .bypass ∧ regulating.driveMap ≠ none ∧
    (({ regulating with slots.comp.refresh := .running 0 } : Part).slot .comp).refresh = .running 0 ∧
    mapped.mode = .bypass ∧ Part.initial.driveMap = none ∧
    ({ regulating with offCycle := .running 0 } : Part).offCycle = .running 0 ∧ regulating.offCycle ≠ .running 0 ∧
    ({ regulating with damper := .deviating, deviation := .running 0 } : Part).damper = .deviating ∧
    regulating.damper ≠ .deviating := by decide +kernel

theorem witness_InterlockScreens :
    let p := { mapped with seconds := 300 }
    p.pathLimits.sMin ≤ p.pathLimits.sMax ∧
    (p.slots.heater.sent.getD 0 = 0 ∧ p.slots.comp.sent.getD 0 = 0 ∧
      p.compStop = some 0 ∧ p.heaterOff = some 0 ∧
      p.pathLimits.restartInhibit ≤ (p.seconds - 0).toNat ∧ p.interlock.tDrip ≤ (p.seconds - 0).toNat) ∧
    ((({ mapped with seconds := 299 } : Part).seconds - 0).toNat < p.pathLimits.restartInhibit) ∧
    (¬heating.slots.heater.sent.getD 0 = 0) ∧ (¬running.slots.comp.sent.getD 0 = 0) ∧
    p.interlock.tPre ≤ (({ mapped with seconds := 60 } : Part).seconds - 0).toNat ∧
    (({ mapped with seconds := 59 } : Part).seconds - 0).toNat < p.interlock.tPre ∧
    running.slots.valve.sent = some 0 ∧ running.slots.valve.sent ≠ some 1 ∧
    running.slots.comp.sent ≠ some (clampNat running.pathLimits.sMin running.pathLimits.sMax running.pathTuning.changeSpeed) ∧
    ({ running with slots.comp.sent := some 1800 } : Part).slots.comp.sent =
      some (clampNat running.pathLimits.sMin running.pathLimits.sMax running.pathTuning.changeSpeed) := by decide +kernel

/-- FZ holds the path in a started run, CD is CALLING too, and the fan and the damper stand as their rules ask. -/
def freezing : Part :=
  { running with
    path.holder := some .fz
    path.valve := .fz
    path.claims.ff := ⟨false, 2, 0, 0⟩
    path.claims.fz := ⟨true, 2, 0, 0⟩
    path.fzRaised := true
    comps.ff.demand := .idle
    comps.cd.demand := .calling
    comps.fz.demand := .calling
    slots.fanFZ.requested := 100
    slots.damperCD.requested := 100 }

theorem witness_FreezerFanAndDamperFollowTheirRules :
    (freezing.mode = .regulate ∧ freezing.slots.fanFZ.tripMark = false ∧ freezing.slots.damperCD.tripMark = false) ∧
    (freezing.path.state = .run ∧ freezing.path.holder = some .fz ∧ freezing.path.runStarted = true ∧
      freezing.defrost.phase ≠ .recover ∧ freezing.doors.fz.stopActive = false ∧
      freezing.slots.fanFZ.requested = freezing.comps.fz.tuning.fan) ∧
    (freezing.comps.cd.demand = .calling ∧ freezing.doors.cd.stopActive = false ∧
      freezing.slots.damperCD.requested = 100) ∧
    (running.path.holder ≠ some .fz ∧ running.slots.fanFZ.requested = 0 ∧ running.slots.damperCD.requested = 0) ∧
    (∃ t, step ⟨freezing, [.fanStopTimerExpiry .fz]⟩ = .next t) ∧ ∃ t, step ⟨running, [.secondTick]⟩ = .next t :=
  by and_intros <;> first | decide +kernel | exact ⟨_, rfl⟩

/-- FF's run with every request as its source asks. -/
def steady : Part := { running with slots.fanFF.requested := 80, slots.fanCond.requested := 100 }

theorem witness_OtherRequestsFollowTheirSources :
    (steady.mode = .regulate ∧ steady.slots.comp.tripMark = false ∧ steady.slots.comp.requested = steady.path.speed) ∧
    (steady.path.valve = .ff ∧ steady.slots.valve.requested = 0) ∧
    (steady.defrost.heater = false ∧ steady.slots.heater.requested = 0) ∧
    (steady.doors.ffL.stopActive = false ∧ steady.doors.ffR.stopActive = false ∧ steady.path.holder = some .ff ∧
      steady.slots.fanFF.requested = steady.comps.ff.tuning.fan) ∧
    (steady.slots.comp.sent.getD 0 ≠ 0 ∧ (steady.point 5).resolved = none ∧ steady.slots.fanCond.requested = 100) ∧
    ∃ t, step ⟨steady, [.secondTick]⟩ = .next t :=
  by and_intros <;> first | decide +kernel | exact ⟨_, rfl⟩

theorem witness_TripRequestTakesOrAdds : mapped.answers ∧ mapped.mode ≠ .regulate ∧ mapped.mode ≠ .service ∧
    running.answers ∧ running.mode = .regulate ∧ running.trip.state = .normal ∧ serving.answers ∧ serving.mode = .service ∧
    running.path.state ≠ .parked ∧ running.path.state ≠ .tripped ∧ heating.answers ∧ heating.trip.state = .normal ∧
    heating.defrost.phase.busy = true ∧ running.defrost.phase = .idle ∧ tripped.answers ∧ tripped.mode = .regulate ∧
    tripped.trip.state ≠ .normal ∧ running.claimsAgree ∧
    (running.path.state = .run ∧ running.path.holder = some .ff ∧ running.path.runStarted = true) ∧
    (recovering.answers ∧ recovering.defrost.phase = .recover ∧ recovering.trip.state = .normal ∧
      recovering.defrost.accumulation < recovering.defrost.interval) ∧
    ({ recovering with defrost.accumulation := 28800 } : Part).defrost.interval ≤ 28800 := by
  and_intros <;> decide +kernel

theorem witness_TripsEndAndTheWindowCloses :
    (mapped.serves ∧ mapped.trip.state = .normal ∧ tripped.serves ∧ tripped.trip.state ≠ .normal ∧
      tripped.line.drained ∧ ({ tripped with line := .afterReset [] } : Part).line.drained) ∧
    (tripped.path.state = .tripped ∧ tripped.mode = .regulate ∧ ∀ k, (tripped.path.claims.get k).raised = false) ∧
    (({ tripped with path.claims.df := ⟨true, 0, 0, 0⟩ } : Part).path.claims.df.raised = true ∧
      tripped.path.claims.df.cls = 0 ∧ 0 < tripped.path.claims.fz.cls ∧ 0 < tripped.path.claims.ff.cls) ∧
    (({ tripped with path.claims.ff := ⟨true, 2, 0, 0⟩ } : Part).path.claims.get .ff).raised = true ∧
    (tripped.slots.valve.sent = none ∧ ({ tripped with slots.valve.sent := some 0 } : Part).slots.valve.sent = some 0 ∧
      ({ tripped with slots.valve.sent := some 1 } : Part).slots.valve.sent = some 1) ∧
    (({ tripped with mode := .service } : Part).mode ≠ .regulate ∧ mapped.path.state ≠ .tripped ∧ showing.mode = .showroom) ∧
    (({ tripped with trip.absence := .running 0 } : Part).trip.absence = .running 0 ∧ tripped.trip.state = .tripped ∧
      tripped.tripSet.autoRearm = true ∧ tripped.trip.causes.hostTrip = false) ∧
    (tripped.trip.rearms < 2 ∧ ({ tripped with trip.rearms := 1 } : Part).trip.rearms < 2 ∧
      2 ≤ ({ tripped with trip.rearms := 2 } : Part).trip.rearms) ∧
    (({ tripped with tripSet.autoRearm := false } : Part).tripSet.autoRearm = false ∧ tripped.trip.absence ≠ .running 0) ∧
    ({ regulating with trip.clean := .running 0 } : Part).trip.clean = .running 0 ∧ regulating.trip.state = .normal ∧
    regulating.trip.clean ≠ .running 0 := by
  and_intros <;> first | decide +kernel | (intro k; cases k <;> decide +kernel)

theorem witness_RelayFramesAreJudged :
    (relayed.src = 0 ∧ 2 ≤ relayed.dst.toNat ∧ relayed.dst.toNat ≤ 62 ∧ relayed.payload.length ≤ 40 ∧
      (relayed.kind = kindRequest → relayed.payload ≠ [])) ∧
    (serving.restartPending = false ∧ serving.line.relay.length < 8 ∧
      8 ≤ ({ serving with line.relay := List.replicate 8 relayed } : Part).line.relay.length ∧
      ({ serving with restartPending := true } : Part).restartPending = true) ∧
    serving.addressedToNone relayed ∧ serving.addressed (driveFrame .comp 19 136) .comp ∧
    serving.addressed (driveFrame .heater 0 2) .heater ∧
    ((19 : Byte).toNat * 256 + (136 : Byte).toNat = 5000 ∧ 1 < (0 : Byte).toNat * 256 + (2 : Byte).toNat ∧
      (0 : Byte).toNat * 256 + (1 : Byte).toNat ≤ 1) ∧
    serving.mode = .service ∧ mapped.mode = .bypass ∧ regulating.mode = .regulate ∧ showing.mode = .showroom ∧
    (serving.slot .comp).tripMark = false ∧ (tripped.slot .comp).tripMark = true ∧
    (driveFrame .comp 19 136).payload = [0, 19, 136] := by
  and_intros <;> first
    | decide +kernel
    | exact (owned_by_places rfl).2.2
    | (intro _ _ m h k; cases h; cases k <;> decide)

theorem witness_PollsComeDueAndFramesGoOut :
    ({ regulating with line.times := [(9, 4), (5, 0)] } : Part).line.times = [(9, 4)] ++ ((5 : Byte).toNat, 0) :: [] ∧
    (∀ x, x ∈ [(9, 4)] → x.1 ≠ (5 : Byte).toNat) ∧ (∀ x, x ∈ regulating.line.times → x.1 ≠ (5 : Byte).toNat) ∧
    regulating.line.state ≠ .sending ∧
    (sending regulating ⟨5, 1, kindPoll, []⟩ .poll).line.state = .sending ∧
    (sending regulating ⟨5, 1, kindPoll, []⟩ .poll).line.txn = some ⟨⟨5, 1, kindPoll, []⟩, .poll⟩ ∧
    (driveFrame .heater 0 1).payload = [1, 0, 1] ∧
    (({ heating with defrost.phase := .prep } : Part).defrost.phase = .prep ∧
      ({ heating with defrost.coil := some 1000 } : Part).defrost.coil = some 1000 ∧
      heating.defrostSet.terminate ≤ 1000) ∧
    ({ running with path.runStarted := false } : Part).path.runStarted = false ∧ running.path.state = .run ∧
    ({ regulating with damper := .deviating } : Part).damper = .deviating ∧ regulating.slots.damperCD.sent ≠ some 100 := by
  decide +kernel

theorem witness_DriveStatusesAreTakenIn :
    let p := waiting running (driveFrame .comp 6 64) (.slot .comp)
    let d := waiting { running with slots.damperCD.sent := some 100 } (driveFrame .damperCD 0 100) (.slot .damperCD)
    let f : Frame := ⟨1, 20, kindDriveStatus, [0, 6, 64, 1]⟩
    let ok : Frame := ⟨1, 22, kindDriveStatus, [3, 0, 110, 0]⟩
    (p.line.state = .awaiting ∧ p.line.txn = some ⟨driveFrame .comp 6 64, .slot .comp⟩ ∧
      (driveFrame .comp 6 64).payload = [0, 6, 64] ∧ f.src = (driveFrame .comp 6 64).dst ∧ f.dst = 1 ∧
      f.payload.length ≤ 40 ∧ f.kind = kindDriveStatus ∧ f.payload = [0, 6, 64, 1] ∧ (1 : Byte) ≠ 0) ∧
    (p.trip.state = .normal ∧ tripped.trip.state = .tripped ∧ tripped.trip.absence = .stopped) ∧
    (d.line.state = .awaiting ∧ ok.src = (driveFrame .damperCD 0 100).dst ∧ ok.payload = [3, 0, 110, 0]) ∧
    ((0 : Byte).toNat * 256 + (110 : Byte).toNat : Int) - (d.slots.damperCD.sent.getD 0 : Nat) = 10 ∧
    ((0 : Byte).toNat * 256 + (111 : Byte).toNat : Int) - (d.slots.damperCD.sent.getD 0 : Nat) > 10 ∧
    ((0 : Byte).toNat * 256 + (90 : Byte).toNat : Int) - (d.slots.damperCD.sent.getD 0 : Nat) = -10 ∧
    ((0 : Byte).toNat * 256 + (89 : Byte).toNat : Int) - (d.slots.damperCD.sent.getD 0 : Nat) < -10 ∧
    d.damper = .watching ∧ ({ d with damper := .flagged } : Part).damper ≠ .watching ∧
    ((waiting running (driveFrame .comp 6 64) (.relay (some .comp))).line.txn =
        some ⟨driveFrame .comp 6 64, .relay (some .comp)⟩ ∧
      (⟨0, 20, kindDriveStatus, [0, 6, 64, 1]⟩ : Frame).src = (driveFrame .comp 6 64).dst ∧
      (⟨0, 20, kindDriveStatus, [0, 6, 64, 1]⟩ : Frame).dst = 0) ∧
    ((⟨1, 20, kindDriveStatus, [0, 6, 64]⟩ : Frame).payload.length ≠ 4 ∧
      (⟨1, 20, kindDriveStatus, [1, 6, 64, 0]⟩ : Frame).payload.head? ≠ some 0) ∧
    (⟨1, 20, kindSample, [0]⟩ : Frame).kind ≠ kindDriveStatus := by decide +kernel

/-- MAP_A with node 5's channel 0 delivered but not forwarded and its channel 1 forwarded RAW. -/
def forwarding : Part :=
  { sensing with
    tables := sensing.tables.set 0
      ⟨.valid, [1, 5, 0, 0, 0, 0, 2, 2, 0] :: [1, 5, 1, 1, 0, 0, 0, 1, 0] :: List.replicate 22 [0, 0, 0, 0, 0, 0, 0, 0, 0]⟩ }

theorem witness_PollsAndRelaysAreAnswered :
    let es : List ChannelEntry := [⟨0, 2000⟩, ⟨1, 4001⟩, ⟨2, 2048⟩, ⟨7, 5⟩]
    let f : Frame := ⟨1, 5, kindSample, [0, 0, 7, 208]⟩
    (serving.line.state ≠ .awaiting ∧ sensing.line.state = .awaiting ∧
      sensing.line.txn = some ⟨⟨5, 1, kindPoll, []⟩, .poll⟩ ∧ sensing.line.window ≠ some 0 ∧
      f.src = (5 : Byte) ∧ (⟨1, 9, kindSample, [0]⟩ : Frame).src ≠ (5 : Byte) ∧ f.payload.length ≤ 40 ∧ f.dst = 1 ∧
      f.payload = [0, 0, 7, 208]) ∧
    (waiting sensing relayed (.relay none)).line.txn = some ⟨relayed, .relay none⟩ ∧
    ((⟨1, 5, kindSample, [0]⟩ : Frame).payload.length < 4 ∧ (⟨1, 5, kindSample, [0, 0, 7]⟩ : Frame).payload.length % 3 ≠ 1 ∧
      25 < (⟨1, 5, kindSample, List.replicate 28 0⟩ : Frame).payload.length) ∧
    (7 < (8 : Byte).toNat ∧ 4095 < (16 : Byte).toNat * 256 + (0 : Byte).toNat ∧ (7 : Byte).toNat ≤ 7 ∧
      (15 : Byte).toNat * 256 + (255 : Byte).toNat ≤ 4095) ∧
    (∀ e, e ∈ sensing.activeEntries → ¬(e.node = f.src.toNat ∧ e.channel = (7 : Byte).toNat)) ∧
    (sensing.activeEntries.find? (fun y => y.node = f.src.toNat ∧ y.channel = (0 : Byte).toNat) =
      some ⟨true, 5, 0, 0, 0, 0, 2, 0, false⟩ ∧ sensing.mode ≠ .bypass ∧ sensing.egress.length < 8 ∧
      sensing.validCurve 0 = some [⟨true, 0, -1000⟩, ⟨true, 4000, 7000⟩] ∧
      convert [⟨true, 0, -1000⟩, ⟨true, 4000, 7000⟩] 2000 = some 3000 ∧
      sensing.egress.length + sensing.line.relay.length < 8) ∧
    (sensing.activeEntries.map (fun e => e.forward) = [0, 0, 0] ∧ forwarding.activeEntries.map (fun e => e.forward) = [2, 1] ∧
      ((sensing.activeEntries.map fun e => e.point) = [0, 1, 6]) ∧ (∀ e, e ∈ sensing.activeEntries → e.point ≤ 15) ∧
      sensing.activeEntries.Pairwise fun a b => a.point ≠ b.point) ∧
    (([0, 0, 7, 208, 1, 15, 161, 2, 8, 0, 7, 0, 5] : List Byte) =
        0 :: (es.map fun y => u8 y.channel ++ u16 y.count).flatten ∧
      (∀ y, y ∈ es → y.channel ≤ 7 ∧ y.count ≤ 4095) ∧ (es.Pairwise fun a b => a.channel ≠ b.channel) ∧
      (es.map fun y => (sensing.mappedTo 5 y).map fun e => e.point) = [some 0, some 1, some 6, none] ∧
      (sensing.point 1).state ≠ .faulty ∧
      (es.map (sensing.itemOfChannel 5 true)).flatten ≠ [] ∧
      ([(⟨0, 2000⟩ : ChannelEntry)].map (forwarding.itemOfChannel 5 true)).flatten = []) ∧
    (7 < (⟨8, 0⟩ : ChannelEntry).channel ∧ 4095 < (⟨0, 4096⟩ : ChannelEntry).count ∧
      ¬[(⟨3, 1⟩ : ChannelEntry), ⟨3, 1⟩].Pairwise fun a b => a.channel ≠ b.channel) := by
  and_intros <;> decide +kernel

theorem witness_WaitsEndByTimeout :
    let p := waiting running (driveFrame .comp 6 64) (.slot .comp)
    (serving.line.state ≠ .awaiting ∧ p.line.window ≠ some 0 ∧ p.line.state = .awaiting ∧
      p.line.txn = some ⟨driveFrame .comp 6 64, .slot .comp⟩ ∧ p.line.window = some 7) ∧
    (p.slots.comp.sent.getD 0 ≠ 0 ∧ ({ p with trip.silent := 1 } : Part).trip.silent < 2 ∧
      2 ≤ ({ p with trip.silent := 2 } : Part).trip.silent ∧ p.trip.state = .normal ∧ tripped.trip.state ≠ .normal) ∧
    tripped.slots.comp.sent.getD 0 = 0 ∧
    ((waiting running relayed (.relay none)).line.txn = some ⟨relayed, .relay none⟩ ∧ running.egress.length < 8 ∧
      (waiting running (driveFrame .comp 6 64) (.relay (some .comp))).line.txn =
        some ⟨driveFrame .comp 6 64, .relay (some .comp)⟩) := by decide +kernel

theorem witness_SecondStepsTheTimers : running.comps.ff.lost = false ∧ running.comps.fz.lost = false ∧
    regulating.path.state ≠ .run ∧ ({ running with path.runStarted := false } : Part).path.runStarted = false ∧
    heating.path.holder = some .df ∧ running.limitsSound ∧ running.callsSound ∧
    (running.path.state = .run ∧ running.path.runStarted = true ∧ running.path.holder = some .ff) ∧
    (freezing.path.holder = some .fz ∧ freezing.limitsSound) ∧
    (({ running with comps.ff.lost := true, comps.ff.demand := .blindCall, comps.ff.air := none } : Part).callsSound ∧
      (({ running with comps.ff.lost := true } : Part).comp .ff).lost = true) := by
  and_intros <;> first
    | decide +kernel
    | (intro c; cases c <;> exact ⟨by decide, nofun, by decide⟩)

theorem witness_NeverBothOn : (sending running (driveFrame .comp 6 64) (.slot .comp)).neverBoth ∧
    ∃ t, step ⟨sending running (driveFrame .comp 6 64) (.slot .comp), [.cabinetFrameSent]⟩ = .next t :=
  ⟨⟨.inr rfl, fun _ => rfl⟩, ⟨_, rfl⟩⟩

theorem witness_LineAndQueuesStaySound : running.line.sound ∧ running.queuesFit ∧ running.line.drained ∧
    running.framesFit ∧ full.framesFit ∧
    ∃ t, step ⟨running, [.replyWindowTimeout]⟩ = .next t := by
  and_intros <;> first | decide +kernel | exact ⟨_, rfl⟩ | exact nofun

theorem witness_CompartmentsLimitsAndLoadsStaySound : running.compsSound ∧ running.limitsSound ∧ loading.loadSound ∧
    loading.tablesSound ∧ loading.mapsSound ∧ running.callsSound ∧
    (∃ t, step ⟨running, [.setSetpoint (.form ⟨0, 900⟩)]⟩ = .next t) ∧
    (∃ t, step ⟨loading, [.tableClose (.form 2)]⟩ = .next t) ∧ mapped.demandsHeld ∧
    ∃ t, step ⟨mapped, [.setMode (.form 1)]⟩ = .next t := by
  refine ⟨?_, by unfold Part.limitsSound; decide +kernel, ⟨by decide +kernel, ?_, by decide +kernel⟩,
    by unfold Part.tablesSound; decide +kernel, by unfold Part.mapsSound mapRules; decide +kernel, ⟨?_, nofun⟩, ⟨_, rfl⟩, ⟨_, rfl⟩,
    fun _ c => by cases c <;> decide +kernel, ⟨_, rfl⟩⟩
  · exact sound_of_empty (by intro c; cases c <;> rfl) (by intro c; cases c <;> decide +kernel)
  · intro l h
    cases h
    decide +kernel
  · intro c
    cases c <;> exact ⟨by decide, nofun, by decide⟩

theorem witness_PathAndDefrostKeepTheirLaw : contested.pathLaw ∧ heating.pathLaw ∧ contested.classesSound ∧
    (∃ t, step ⟨contested, [.minimumHoldExpiry]⟩ = .next t) ∧ ∃ t, step ⟨heating, [.heatTimeout]⟩ = .next t := by
  refine ⟨?_, ?_, by unfold Part.classesSound; decide +kernel, ⟨_, rfl⟩, ⟨_, rfl⟩⟩
  all_goals
    unfold Part.pathLaw
    and_intros <;> first
      | decide +kernel
      | (intro k; cases k <;> decide +kernel)
      | (intro _ k; cases k <;> decide +kernel)
      | exact (rfl : _ = true)

theorem witness_ResolutionsStandAndAreFollowed : settled.resolutionsStand ∧
    (∃ t, step ⟨settled, [.staleTimerExpiry 0]⟩ = .next t) ∧ drawerOpen.doorsFollow ∧
    ∃ t, step ⟨drawerOpen, [.setMode (.form 1)]⟩ = .next t := by
  refine ⟨⟨by decide +kernel, ?_, by decide +kernel⟩, ⟨_, rfl⟩, ?_, ⟨_, rfl⟩⟩
  rotate_left
  · intro i d h
    cases d <;> revert h <;> revert i <;> decide +kernel
  intro i c
  revert i
  cases c <;> decide +kernel

end Sys2Proof.Tests
end

section
/-! Announcements to the consumers leave the point records as they are, and a resolution changes of a point only what is
resolved of it (R17, R18); so nothing after a delivered sample changes the state and filtered value it gives its point. -/

namespace Sys2Proof.Machine

/-! ## The consumers of an announcement -/

theorem PathOnly.points_eq {p q : Part} (h : PathOnly p q) : q.points = p.points := by rw [h]

@[simp] theorem setComp_points (p : Part) (c : Comp) (r : CompRec) : (p.setComp c r).points = p.points := by
  unfold Part.setComp
  dsimp only
  split <;> rfl

@[simp] theorem handFFClaim_points (p : Part) : p.handFFClaim.points = p.points := (handFF_path _ _ _).points_eq

@[simp] theorem handFZClaim_points (p : Part) : p.handFZClaim.points = p.points := (handFZ_path _ _ _).points_eq

@[simp] theorem handClaims_points (p : Part) : p.handClaims.points = p.points := by
  unfold Part.handClaims Part.inEitherOrder
  dsimp only
  split
  · split <;> simp
  · simp

@[simp] theorem takeAir_points (p : Part) (c : Comp) (a : Ann) (l : LostChange) :
    (p.takeAir c a l).points = p.points := by
  simp [Part.takeAir]

@[simp] theorem announceAir_points (p : Part) (c : Comp) (a : Ann) (l : LostChange) :
    (p.announceAir c a l).points = p.points := by
  have alarm (q : Part) : (if p.active = true ∧ l = .begins then q.raiseBlind c else q).points = q.points := by
    split <;> rfl
  cases a with
  | value t => exact (passValue_path _ c).points_eq.trans (by simp [alarm])
  | noValue => simp [Part.announceAir, alarm]
  | nothing => simp [Part.announceAir, alarm]

@[simp] theorem setStack_points (p : Part) (c : Comp) (l : List Override) : (p.setStack c l).points = p.points := by
  simp [Part.setStack, Part.recompute]

@[simp] theorem doorRecovery_points (p : Part) (c : Comp) (o : Int) (n : Nat) :
    (p.doorRecovery c o n).points = p.points := by
  unfold Part.doorRecovery
  dsimp only
  split
  · exact setStack_points _ _ _
  · split
    · exact setStack_points _ _ _
    · rfl

@[simp] theorem closeDoor_points (p : Part) (d : DoorId) (w : WidthLevel) : (p.closeDoor d w).points = p.points := by
  unfold Part.closeDoor Part.testRecovery
  dsimp only
  split <;> simp

@[simp] theorem openDoor_points (p : Part) (d : DoorId) : (p.openDoor d).points = p.points := rfl

@[simp] theorem announceDoor_points (p : Part) (d : DoorId) (a : Ann) : (p.announceDoor d a).points = p.points := by
  cases a with
  | nothing => rfl
  | noValue => simp only [Part.announceDoor]; split <;> simp
  | value v =>
    simp only [Part.announceDoor]
    split
    · split <;> simp
    · split <;> simp

@[simp] theorem announce_points (p : Part) (x : Announcement) : (p.announce x).points = p.points := by
  unfold Part.announce
  split
  case h_4 =>
    split
    · exact (takeFFCoil_path _ _).points_eq
    · rfl
  case h_5 => exact (announceCoil_path _ _).points_eq
  all_goals simp

theorem foldl_announce_points (l : List Announcement) :
    ∀ p : Part, (l.foldl Part.announce p).points = p.points := by
  induction l with
  | nil => exact fun _ => rfl
  | cons x l ih => exact fun p => (ih _).trans (announce_points p x)

@[simp] theorem announceAll_points (p : Part) (l : List Announcement) : (p.announceAll l).points = p.points := by
  unfold Part.announceAll
  split
  · rfl
  · exact announce_points _ _
  · exact foldl_announce_points _ _

/-! ## Resolution and delivery -/

theorem resolveAfresh_points (p : Part) (s : Option PointId) (f : PointId → Bool) :
    (p.resolveAfresh s f).points = p.resolved f := announceAll_points _ _

@[simp] theorem resolveFrom_point_state (p : Part) (s : Option PointId) (i j : PointId) :
    ((p.resolveFrom s i).point j).state = (p.point j).state := by
  simp only [Part.resolveFrom, Part.point, resolveAfresh_points, Part.resolved, Fin.getElem_fin, Vector.getElem_ofFn]
  split <;> rfl

@[simp] theorem resolveFrom_point_filtered (p : Part) (s : Option PointId) (i j : PointId) :
    ((p.resolveFrom s i).point j).filtered = (p.point j).filtered := by
  simp only [Part.resolveFrom, Part.point, resolveAfresh_points, Part.resolved, Fin.getElem_fin, Vector.getElem_ofFn]
  split <;> rfl

@[simp] theorem raiseIfTargeted_point (p : Part) (i j : PointId) : (p.raiseIfTargeted i).point j = p.point j := by
  unfold Part.raiseIfTargeted
  split <;> rfl

@[simp] theorem takeSample_state (p : Part) (i : PointId) (v : Int) (n : Nat) :
    ((p.takeSample i v n).point i).state = .fresh := by
  simp [Part.takeSample, Point.take]

@[simp] theorem takeSample_filtered (p : Part) (i : PointId) (v : Int) (n : Nat) :
    ((p.takeSample i v n).point i).filtered = v := by
  simp [Part.takeSample, Point.take]

@[simp] theorem takeOutOfSpan_state (p : Part) (i : PointId) (n : Nat) :
    ((p.takeOutOfSpan i n).point i).state = .faulty := by
  unfold Part.takeOutOfSpan
  dsimp only
  split
  · simpa
  · simp

@[simp] theorem takeOutOfSpan_filtered (p : Part) (i : PointId) (n : Nat) :
    ((p.takeOutOfSpan i n).point i).filtered = (p.point i).filtered := by
  unfold Part.takeOutOfSpan
  dsimp only
  split <;> simp

theorem isDoorPoint_eq_false {i : PointId} (h : i.val < 6 ∨ 9 < i.val) : isDoorPoint i = false := by
  revert i
  decide

/-- A count out of the span of the VALID curve is an out-of-span sample of its temperature point (R5, R6). -/
theorem deliver_out_of_span {p : Part} {d : Delivery} {knots : List Knot} (mode : p.mode ≠ .bypass)
    (temp : d.point.val < 6 ∨ 9 < d.point.val) (valid : p.validCurve d.curve = some knots)
    (out : convert knots d.count = none) :
    p.deliver d = (p.takeOutOfSpan d.point d.count, .outOfSpan) := by
  simp [Part.deliver, mode, isDoorPoint_eq_false temp, valid, out]

/-- A count in the span of the VALID curve is taken, trimmed, saturated and filtered (R5, R8). -/
theorem deliver_in_span {p : Part} {d : Delivery} {knots : List Knot} {t : Int} (mode : p.mode ≠ .bypass)
    (temp : d.point.val < 6 ∨ 9 < d.point.val) (valid : p.validCurve d.curve = some knots)
    (within : convert knots d.count = some t) :
    p.deliver d =
      (p.takeSample d.point ((p.point d.point).filter (saturate (t + d.trim)) d.shift) d.count, .taken) := by
  simp [Part.deliver, mode, isDoorPoint_eq_false temp, valid, within]

end Sys2Proof.Machine
end

section
/-! Rounded division, conversion along a curve and the filter step (R6, R7, R8). -/

namespace Sys2Proof.Machine

/-! ## Rounded division -/

@[simp] theorem roundDiv_neg (a b : Int) : roundDiv (-a) b = -roundDiv a b := by
  unfold roundDiv
  rw [← Int.neg_tdiv, Int.sign_neg]
  congr 1
  ring

@[simp] theorem roundDiv_zero (b : Int) : roundDiv 0 b = 0 := by simp [roundDiv]

theorem roundDiv_of_pos {a b : Int} (ha : 0 < a) (hb : 0 < b) : roundDiv a b = (2 * a + b) / (2 * b) := by
  unfold roundDiv
  rw [Int.sign_eq_one_of_pos ha, one_mul, Int.tdiv_eq_ediv_of_nonneg (by omega)]

/-- The product of the divisor and the rounded quotient is the multiple of the divisor nearest to a positive dividend,
the upper one of two that are equally near. -/
theorem mul_roundDiv_of_pos {a b : Int} (ha : 0 < a) (hb : 0 < b) :
    2 * (b * roundDiv a b) ≤ 2 * a + b ∧ 2 * a < 2 * (b * roundDiv a b) + b := by
  have division := Int.mul_ediv_add_emod (2 * a + b) (2 * b)
  have low := Int.emod_nonneg (2 * a + b) (show 2 * b ≠ 0 by omega)
  have high := Int.emod_lt_of_pos (2 * a + b) (show 0 < 2 * b by omega)
  rw [← roundDiv_of_pos ha hb, mul_assoc] at division
  omega

/-- Rounded to nearest, a quotient halfway going away from zero (R7, R8). -/
theorem roundDiv_nearest (a : Int) {b : Int} (hb : 0 < b) :
    2 * |a - b * roundDiv a b| ≤ b ∧ (2 * |a - b * roundDiv a b| = b → |a| < |b * roundDiv a b|) := by
  rcases lt_trichotomy a 0 with ha | rfl | ha
  · obtain ⟨low, high⟩ := mul_roundDiv_of_pos (a := -a) (by omega) hb
    simp only [roundDiv_neg, mul_neg] at low high
    simp only [abs_eq_max_neg]
    omega
  · simpa using ⟨hb.le, hb.ne⟩
  · obtain ⟨low, high⟩ := mul_roundDiv_of_pos ha hb
    simp only [abs_eq_max_neg]
    omega

theorem roundDiv_eq_zero_iff (a : Int) {b : Int} (hb : 0 < b) : roundDiv a b = 0 ↔ 2 * |a| < b := by
  obtain ⟨near, away⟩ := roundDiv_nearest a hb
  constructor
  · intro zero
    simp only [zero, mul_zero, sub_zero, abs_zero] at near away
    have := abs_nonneg a
    omega
  · intro small
    have less : |b * roundDiv a b| < b := by
      simp only [abs_eq_max_neg] at near small ⊢
      omega
    exact (mul_eq_zero.1 (Int.eq_zero_of_abs_lt_dvd (Int.dvd_mul_right b _) less)).resolve_left hb.ne'

@[simp] theorem roundDiv_one (a : Int) : roundDiv a 1 = a := by
  obtain ⟨near, -⟩ := roundDiv_nearest a one_pos
  rw [one_mul, abs_eq_max_neg] at near
  omega

theorem roundDiv_nonneg {a b : Int} (ha : 0 ≤ a) (hb : 0 < b) : 0 ≤ roundDiv a b := by
  rcases ha.eq_or_lt with rfl | ha
  · simp
  · rw [roundDiv_of_pos ha hb]
    exact Int.ediv_nonneg (by omega) (by omega)

/-- A quotient that is at most a whole number is rounded to at most that number. -/
theorem roundDiv_le {a b m : Int} (hm : 0 ≤ m) (hb : 0 < b) (h : a ≤ b * m) : roundDiv a b ≤ m := by
  obtain ⟨near, away⟩ := roundDiv_nearest a hb
  by_contra beyond
  have step : b * (m + 1) ≤ b * roundDiv a b := Int.mul_le_mul_of_nonneg_left (by omega) hb.le
  have := mul_nonneg hb.le hm
  simp only [mul_add, mul_one, abs_eq_max_neg] at step near away
  omega

/-! ## Interpolation -/

/-- The rounded share `n / d` of a difference lies between 0 and the difference. -/
theorem roundDiv_share {n d : Int} (m : Int) (hn : 0 ≤ n) (hnd : n ≤ d) (hd : 0 < d) :
    min 0 m ≤ roundDiv (m * n) d ∧ roundDiv (m * n) d ≤ max 0 m := by
  have share {m : Int} (hm : 0 ≤ m) : 0 ≤ roundDiv (m * n) d ∧ roundDiv (m * n) d ≤ m :=
    ⟨roundDiv_nonneg (mul_nonneg hm hn) hd, roundDiv_le hm hd (by
      rw [mul_comm d]
      exact Int.mul_le_mul_of_nonneg_left hnd hm)⟩
  rcases le_total 0 m with hm | hm
  · have := share hm
    omega
  · have := share (m := -m) (by omega)
    rw [neg_mul, roundDiv_neg] at this
    omega

theorem ascending_iff_pairwise : ∀ l : List Nat, ascending l = true ↔ l.Pairwise (· < ·)
  | [] => by simp [ascending]
  | [a] => by simp [ascending]
  | a :: b :: l => by
    rw [← List.isChain_iff_pairwise, List.isChain_cons_cons, List.isChain_iff_pairwise,
      ← ascending_iff_pairwise (b :: l)]
    simp [ascending]

/-- With ascending counts, where a segment stands: the knots before it have lower counts and those after it higher
ones. -/
theorem ascending_segment {pre post : List Knot} {a b : Knot}
    (asc : ascending ((pre ++ a :: b :: post).map fun k => k.count) = true) :
    (∀ k ∈ pre, k.count < a.count) ∧ a.count < b.count ∧ ∀ k ∈ post, b.count < k.count := by
  rw [ascending_iff_pairwise, List.pairwise_map, List.pairwise_append, List.pairwise_cons, List.pairwise_cons] at asc
  obtain ⟨-, ⟨aboveA, aboveB, -⟩, across⟩ := asc
  exact ⟨fun k hk => across k hk a (by simp), aboveA b (by simp), aboveB⟩

/-- The segments before the lowest one that holds the count are passed over (R7). -/
theorem interpolate_append {a b : Knot} {post : List Knot} {c : Nat} (below : c ≤ b.count) :
    ∀ pre : List Knot, (∀ k ∈ pre, k.count < a.count) → (pre ≠ [] → a.count < c) →
      interpolate c (pre ++ a :: b :: post) =
        a.temp + roundDiv ((b.temp - a.temp) * ((c : Int) - a.count)) ((b.count : Int) - a.count)
  | [], _, _ => if_pos below
  | [_], _, lowest => (if_neg (lowest nofun).not_ge).trans (if_pos below)
  | _ :: y :: pre, lower, lowest =>
    have above := lowest nofun
    (if_neg ((lower y (by simp)).trans above).not_ge).trans
      (interpolate_append below (y :: pre) (fun k hk => lower k (.tail _ hk)) fun _ => above)

/-! ## The span check -/

theorem convert_cons (a : Knot) (rest : List Knot) (c : Nat) :
    convert (a :: rest) c = if a.count ≤ c ∧ c ≤ ((a :: rest).getLast nofun).count
      then some (interpolate c (a :: rest)) else none := by
  simp only [convert, List.head?_cons, List.getLast?_eq_some_getLast (List.cons_ne_nil a rest)]

/-- A count in span takes the temperature of its segment (R6, R7). -/
theorem convert_in_segment {pre post : List Knot} {a b : Knot} {c : Nat}
    (asc : ascending ((pre ++ a :: b :: post).map fun k => k.count) = true) (ac : a.count ≤ c) (cb : c ≤ b.count)
    (lowest : pre ≠ [] → a.count < c) :
    convert (pre ++ a :: b :: post) c = some (a.temp +
      roundDiv ((b.temp - a.temp) * ((c : Int) - a.count)) ((b.count : Int) - a.count)) := by
  obtain ⟨lower, -, higher⟩ := ascending_segment asc
  rw [← interpolate_append (post := post) cb pre lower lowest]
  have last (l : List Knot) (h : l ++ b :: post ≠ []) : c ≤ ((l ++ b :: post).getLast h).count := by
    rw [List.getLast_append_of_ne_nil h nofun]
    rcases List.mem_cons.1 (List.getLast_mem (List.cons_ne_nil b post)) with e | mem
    · rwa [e]
    · exact cb.trans (higher _ mem).le
  cases pre with
  | nil => exact (convert_cons _ _ _).trans (if_pos ⟨ac, last [a] _⟩)
  | cons x pre =>
    refine (convert_cons _ _ _).trans (if_pos ⟨(lower x (by simp)).le.trans ac, ?_⟩)
    simpa using last (x :: pre ++ [a]) (by simp)

theorem convert_out_of_span {a : Knot} {rest : List Knot} {c : Nat}
    (h : c < a.count ∨ (a :: rest).getLast?.any (fun z => decide (z.count < c)) = true) :
    convert (a :: rest) c = none := by
  rw [List.getLast?_eq_some_getLast (List.cons_ne_nil a rest), Option.any_some, decide_eq_true_eq] at h
  exact (convert_cons _ _ _).trans (if_neg (by omega))

/-- With ascending counts a segment's temperature lies between its knots' (R7). -/
theorem interpolated_between {a b : Knot} {c : Nat} (ab : a.count < b.count) (ac : a.count ≤ c) (cb : c ≤ b.count) :
    let t := a.temp + roundDiv ((b.temp - a.temp) * ((c : Int) - a.count)) ((b.count : Int) - a.count)
    min a.temp b.temp ≤ t ∧ t ≤ max a.temp b.temp := by
  have share := roundDiv_share (n := (c : Int) - a.count) (d := (b.count : Int) - a.count) (b.temp - a.temp)
    (by omega) (by omega) (by omega)
  dsimp only
  omega

/-! ## The filter step -/

@[simp] theorem filterStep_neg (d : Int) (k : Nat) : filterStep (-d) k = -filterStep d k := by
  simp only [filterStep, roundDiv_neg, neg_eq_zero, Int.sign_neg]
  split <;> rfl

@[simp] theorem filterStep_zero (k : Nat) : filterStep 0 k = 0 := by simp [filterStep]

theorem filterStep_of_small {d : Int} {k : Nat} (h : 2 * |d| < 2 ^ k) : filterStep d k = d.sign :=
  if_pos ((roundDiv_eq_zero_iff d (by positivity)).2 h)

theorem filterStep_of_large {d : Int} {k : Nat} (h : 2 ^ k ≤ 2 * |d|) : filterStep d k = roundDiv d (2 ^ k) :=
  if_neg fun zero => h.not_gt ((roundDiv_eq_zero_iff d (by positivity)).1 zero)

@[simp] theorem filterStep_shift_zero (d : Int) : filterStep d 0 = d := by
  simp only [filterStep, pow_zero, roundDiv_one]
  split <;> simp_all

/-- A step up moves by at least 1 and never past the new value (R8). -/
theorem filterStep_of_pos {d : Int} (hd : 0 < d) (k : Nat) : 1 ≤ filterStep d k ∧ filterStep d k ≤ d := by
  have power : (1 : Int) ≤ 2 ^ k := one_le_pow₀ (by norm_num)
  rcases lt_or_ge (2 * |d|) (2 ^ k) with small | large
  · rw [filterStep_of_small small, Int.sign_eq_one_of_pos hd]
    omega
  · rw [filterStep_of_large large]
    have nonzero := mt (roundDiv_eq_zero_iff d (by omega)).1 large.not_gt
    have nonneg := roundDiv_nonneg hd.le (show (0 : Int) < 2 ^ k by omega)
    exact ⟨by omega, roundDiv_le hd.le (by omega) (le_mul_of_one_le_left hd.le power)⟩

/-- A step down is a step up mirrored. -/
theorem filterStep_of_neg {d : Int} (hd : d < 0) (k : Nat) : filterStep d k ≤ -1 ∧ d ≤ filterStep d k := by
  have up := filterStep_of_pos (d := -d) (by omega) k
  rw [filterStep_neg] at up
  omega

theorem saturate_eq_nearest (v : Int) : saturate v = nearest (-4000) 6000 v := by
  unfold saturate clampInt nearest
  omega

/-- A filtered value in −4000..6000 stays there under a new value in −4000..6000 (R8): a step does not leave the
interval between the two. -/
theorem filter_in_range (x : Point) (v : Int) (k : Nat) (low : -4000 ≤ x.filtered) (high : x.filtered ≤ 6000) :
    -4000 ≤ x.filter (nearest (-4000) 6000 v) k ∧ x.filter (nearest (-4000) 6000 v) k ≤ 6000 := by
  have range : -4000 ≤ nearest (-4000) 6000 v ∧ nearest (-4000) 6000 v ≤ 6000 := by
    unfold nearest
    omega
  generalize nearest (-4000) 6000 v = t at range ⊢
  unfold Point.filter
  split
  · rcases lt_trichotomy (t - x.filtered) 0 with down | still | up
    · have := filterStep_of_neg down k
      omega
    · rw [still, filterStep_zero]
      omega
    · have := filterStep_of_pos up k
      omega
  · exact range

/-! ## The obligation -/

/-- Settles O33: rounded division is nearest, so a segment's share and a filter step stay between their ends; what a
delivered sample does to its point is read off the span check. -/
theorem conversionAndFilter : Obligations.ConversionAndFilter := by
  unfold Obligations.ConversionAndFilter
  refine ⟨fun pre a b post c asc ac cb lowest => ?_, fun _ _ _ => convert_out_of_span,
    fun x _ hy => roundDiv_nearest x hy,
    fun d k => ⟨fun up => filterStep_of_pos up k, fun down => filterStep_of_neg down k, filterStep_zero k,
      filterStep_shift_zero d, filterStep_of_small, filterStep_of_large⟩,
    fun p d knots mode temp valid => ⟨fun out => ?_, fun t within => ?_⟩⟩
  · obtain ⟨-, ab, -⟩ := ascending_segment asc
    exact ⟨_, convert_in_segment asc ac cb lowest, rfl, interpolated_between ab ac cb⟩
  · rw [deliver_out_of_span mode temp valid out]
    exact ⟨rfl, takeOutOfSpan_state _ _ _, takeOutOfSpan_filtered _ _ _⟩
  · rw [deliver_in_span mode temp valid within, saturate_eq_nearest]
    dsimp only
    rw [takeSample_filtered]
    exact ⟨rfl, takeSample_state _ _ _ _, rfl, filter_in_range _ _ _⟩

end Sys2Proof.Machine
end

section
/-! The effective setpoint of a compartment record (R56): the recomputation gives it, and the rules of demand, blind
cycling, warm alarm and tuning leave it and what it is computed from as they are. -/

namespace Sys2Proof.Machine

/-! ## The rule -/

/-- The stored effective setpoint is the one that R56 gives. -/
def CompRec.followsStack (r : CompRec) : Prop := r.effective = r.ruled

theorem Override.act_eq_ite (o : Override) (v : Int) :
    o.act v = if o.tag = .spent then v else if o.kind = .absolute then o.value else v + o.value := by
  rcases o with ⟨_ | _, _, _, _, _, _ | _⟩ <;> rfl

/-- The recomputation of the model is the rule of R56. -/
theorem effectiveOf_eq_ruled (r : CompRec) : r.effectiveOf = r.ruled := by
  have same : runningValue r.base r.stack = r.stack.reverse.foldl
      (fun v o => if o.tag = .spent then v else if o.kind = .absolute then o.value else v + o.value) r.base := by
    rw [List.foldl_reverse]
    exact congrArg (fun f => r.stack.foldr f r.base) (funext₂ Override.act_eq_ite)
  unfold CompRec.effectiveOf CompRec.ruled clampInt
  rw [same]

theorem clampInt_bounds {lo hi : Int} (ordered : lo ≤ hi) (v : Int) :
    lo ≤ clampInt lo hi v ∧ clampInt lo hi v ≤ hi := by
  unfold clampInt
  omega

theorem clampInt_of_within {lo hi v : Int} (low : lo ≤ v) (high : v ≤ hi) : clampInt lo hi v = v := by
  unfold clampInt
  omega

theorem ruled_bounds {r : CompRec} (ordered : r.spMin ≤ r.spMax) : r.spMin ≤ r.ruled ∧ r.ruled ≤ r.spMax := by
  rw [← effectiveOf_eq_ruled]
  exact clampInt_bounds ordered _

/-! ## Records that are recomputed -/

theorem recomputed_follows (r : CompRec) : ({ r with effective := r.effectiveOf } : CompRec).followsStack :=
  effectiveOf_eq_ruled r

/-- A close of CMP_LIMITS recomputes the effective setpoint (R48). -/
theorem takeLimits_follows {r : CompRec} (h : r.followsStack) (e : List Int) : (r.takeLimits e).followsStack := by
  unfold CompRec.takeLimits
  split
  · exact recomputed_follows _
  · exact h

@[simp] theorem Override.act_tick (o : Override) : o.tick.act = o.act := by
  unfold Override.tick
  split <;> rfl

theorem runningValue_tick (base : Int) (l : List Override) :
    runningValue base (l.map Override.tick) = runningValue base l := by
  simp [runningValue, List.foldr_map]

/-- A second takes remaining time off the entries, which is not what R56 reads of them. -/
theorem tick_follows {r : CompRec} (h : r.followsStack) : r.tick.followsStack := by
  have same : r.tick.effectiveOf = r.effectiveOf := congrArg (clampInt _ _) (runningValue_tick _ _)
  unfold CompRec.followsStack
  rw [← effectiveOf_eq_ruled, same, effectiveOf_eq_ruled]
  exact h

/-- After either reset the stack is empty and the base lies within the limits, so it is the effective setpoint (R72). -/
theorem afterReset_follows {base lo hi : Int} (low : lo ≤ base) (high : base ≤ hi) (t : Tuning) :
    (CompRec.afterReset base lo hi t).followsStack :=
  (clampInt_of_within low high).symm.trans (effectiveOf_eq_ruled (.afterReset base lo hi t))

theorem initial_follows (c : Comp) : (CompRec.initial c).followsStack := by
  cases c <;> exact afterReset_follows (by decide) (by decide) _

theorem restarted_follows {r : CompRec} (ordered : r.spMin ≤ r.spMax) (c : Comp) : (r.restarted c).followsStack :=
  have ⟨low, high⟩ := clampInt_bounds ordered (initialBase c)
  afterReset_follows low high _

/-! ## Records that only take a demand, an alarm or a tuning -/

/-- `q` differs from `r` in nothing that the effective setpoint is computed from, nor in the effective setpoint. -/
def CompRec.DemandOnly (r q : CompRec) : Prop :=
  q = { r with
    air := q.air
    lost := q.lost
    demand := q.demand
    urgent := q.urgent
    blind := q.blind
    warmCount := q.warmCount
    warm := q.warm
    tuning := q.tuning
    pending := q.pending }

namespace CompRec

theorem DemandOnly.refl (r : CompRec) : DemandOnly r r := rfl

theorem DemandOnly.after {r q x : CompRec} (k : DemandOnly q x) (h : DemandOnly r q) : DemandOnly r x := by
  unfold DemandOnly at *
  rw [k, h]

theorem DemandOnly.follows {r q : CompRec} (k : DemandOnly r q) (h : r.followsStack) : q.followsStack := by
  rw [k]
  exact h

theorem inActive_demandOnly {r : CompRec} {f : CompRec → CompRec} (active : Bool) (h : DemandOnly r (f r)) :
    DemandOnly r (r.inActive active f) := by
  unfold inActive
  split
  · exact h
  · exact .refl r

theorem expireWarm_demandOnly (r : CompRec) : DemandOnly r r.expireWarm := by
  unfold expireWarm
  split <;> rfl

theorem warmValue_demandOnly (r : CompRec) (v : Int) : DemandOnly r (r.warmValue v) := by
  unfold warmValue
  split
  · split
    · rfl
    · exact (expireWarm_demandOnly _).after rfl
    · rfl
  · rfl

theorem warmNone_demandOnly (r : CompRec) : DemandOnly r r.warmNone := by
  unfold warmNone
  split <;> rfl

theorem warmAnn_demandOnly (r : CompRec) (a : Ann) : DemandOnly r (r.warmAnn a) := by
  cases a with
  | value v => exact warmValue_demandOnly r v
  | noValue => exact warmNone_demandOnly r
  | nothing => rfl

theorem warmRetune_demandOnly (r : CompRec) : DemandOnly r r.warmRetune := by
  unfold warmRetune
  refine (expireWarm_demandOnly _).after ?_
  split
  · rfl
  · split
    · split <;> rfl
    · split <;> rfl

theorem applyPending_demandOnly (r : CompRec) : DemandOnly r r.applyPending := by
  unfold applyPending
  split
  · rfl
  · exact (warmRetune_demandOnly _).after rfl

theorem goTo_demandOnly (r : CompRec) (d : Demand) (urgent : Bool) : DemandOnly r (r.goTo d urgent) := by
  unfold goTo
  dsimp only
  split
  · exact (applyPending_demandOnly _).after rfl
  · rfl

theorem evaluate_demandOnly (r : CompRec) (fromCalling : Bool) : DemandOnly r (r.evaluate fromCalling) := by
  unfold evaluate
  split
  · rfl
  · exact goTo_demandOnly _ _ _

theorem reevaluate_demandOnly (r : CompRec) : DemandOnly r r.reevaluate := by
  unfold reevaluate
  split
  · exact evaluate_demandOnly _ _
  · exact evaluate_demandOnly _ _
  · rfl

theorem blindCall_demandOnly (r : CompRec) : DemandOnly r r.blindCall := DemandOnly.after rfl (goTo_demandOnly r _ _)

theorem blindRest_demandOnly (r : CompRec) : DemandOnly r r.blindRest := DemandOnly.after rfl (goTo_demandOnly r _ _)

theorem await_demandOnly (r : CompRec) : DemandOnly r r.await := (goTo_demandOnly _ _ _).after rfl

theorem hold_demandOnly (r : CompRec) : DemandOnly r r.hold := rfl

theorem resume_demandOnly (r : CompRec) : DemandOnly r r.resume := by
  unfold resume
  split
  · exact blindCall_demandOnly r
  · split
    · exact evaluate_demandOnly _ _
    · exact goTo_demandOnly _ _ _

theorem follow_demandOnly (r : CompRec) (a : Ann) (l : LostChange) : DemandOnly r (r.follow a l) := rfl

theorem takeAnn_demandOnly (r : CompRec) (a : Ann) (l : LostChange) : DemandOnly r (r.takeAnn a l) := by
  unfold takeAnn
  split
  · exact (evaluate_demandOnly _ _).after rfl
  · split
    · exact evaluate_demandOnly _ _
    · exact reevaluate_demandOnly r
  · exact blindCall_demandOnly r
  · exact (goTo_demandOnly _ _ _).after rfl
  · split
    · exact goTo_demandOnly _ _ _
    · exact goTo_demandOnly _ _ _
    · rfl
  · rfl

theorem takeTuning_demandOnly (r : CompRec) (active : Bool) (t : Tuning) : DemandOnly r (r.takeTuning active t) := by
  unfold takeTuning
  split
  · rfl
  · refine (inActive_demandOnly active ?_).after ((inActive_demandOnly active (warmRetune_demandOnly _)).after rfl)
    split
    · exact evaluate_demandOnly _ _
    · rfl

end CompRec

/-- A stack that is cleared has its effective setpoint recomputed, and one that is empty stays as it is (R54). -/
theorem clearStack_follows {r : CompRec} (h : r.followsStack) (active : Bool) : (r.clearStack active).followsStack := by
  unfold CompRec.clearStack
  split
  · exact h
  · exact (CompRec.inActive_demandOnly active (CompRec.reevaluate_demandOnly _)).follows (recomputed_follows _)

end Sys2Proof.Machine
end

section
/-! Operations that leave every compartment record as it is. -/

namespace Sys2Proof.Machine

theorem PathOnly.comps_eq {p q : Part} (h : PathOnly p q) : q.comps = p.comps := by rw [h]

theorem EdgeOnly.comps_eq {p q : Part} (h : EdgeOnly p q) : q.comps = p.comps := by rw [h]; rfl

/-! ## Claims and slots -/

@[simp] theorem handClaims_comps (p : Part) : p.handClaims.comps = p.comps := by
  have handed (q : Part) : q.handFFClaim.handFZClaim.comps = q.comps :=
    ((handFF_path q _ _).trans (handFZ_path _ _ _)).comps_eq
  have handedBack (q : Part) : q.handFZClaim.handFFClaim.comps = q.comps :=
    ((handFZ_path q _ _).trans (handFF_path _ _ _)).comps_eq
  unfold Part.handClaims Part.inEitherOrder
  dsimp only
  split
  · split
    · exact handedBack _
    · exact handed _
  · exact handed p

@[simp] theorem ask_comps (p : Part) (r : Role) (v : Nat) : (p.ask r v).comps = p.comps := by
  unfold Part.ask
  split <;> rfl

@[simp] theorem restRequests_comps (p : Part) : p.restRequests.comps = p.comps := by simp [Part.restRequests]

@[simp] theorem recordSent_comps (p : Part) (r : Role) (v : Nat) : (p.recordSent r v).comps = p.comps := by
  have clocked : (p.clockValue r v).comps = p.comps := by
    unfold Part.clockValue Part.clockComp Part.clockHeater Part.damperMoves
    split
    · split
      · rfl
      · split <;> rfl
    · split
      · rfl
      · split <;> rfl
    · split <;> rfl
    · rfl
  exact clocked

@[simp] theorem report_comps (p : Part) (r : Role) (v : Nat) : (p.report r v).comps = p.comps := by
  unfold Part.report
  split
  · exact (reportComp_path _ _).comps_eq
  · exact (reportHeater_path _ _).comps_eq
  · rfl

@[simp] theorem valueSent_comps (p : Part) (t : Txn) : (p.valueSent t).comps = p.comps := by
  unfold Part.valueSent
  split
  · rfl
  · simp [Part.slotSent]
  · rfl
  · simp

/-! ## The defrost sequencer -/

@[simp] theorem placeHeaterOff_comps (p : Part) : p.placeHeaterOff.comps = p.comps := by
  unfold Part.placeHeaterOff
  split <;> simp

@[simp] theorem cutDefrost_comps (p : Part) (c : EndCause) : (p.cutDefrost c).comps = p.comps := by
  rcases cutDefrost_cases p c with h | h
  · exact h.comps_eq.trans (placeHeaterOff_comps p)
  · exact h.comps_eq

@[simp] theorem checkTimeout_comps (p : Part) : p.checkTimeout.comps = p.comps := by
  unfold Part.checkTimeout
  split <;> rfl

@[simp] theorem resumeHeat_comps (p : Part) : p.resumeHeat.comps = p.comps :=
  (checkTimeout_comps _).trans (checkTermination_path _).comps_eq

theorem exhaustBudget_comps (p : Part) : p.exhaustBudget.comps = p.comps := by
  unfold Part.exhaustBudget
  split
  · exact resumeHeat_comps p
  · rfl

theorem completeDefrost_comps (p : Part) : p.completeDefrost.comps = p.comps := by
  unfold Part.completeDefrost
  split
  · exact ((handRecover_path _ _).trans (handDF_path _ _)).comps_eq
  · rfl

/-! ## The trip unit and the status intake -/

@[simp] theorem arise_comps (p : Part) (c : Cause) : (p.arise c).comps = p.comps := by
  have taken : (p.takeTrip c).comps = p.comps :=
    (cutDefrost_comps _ _).trans (tripPath_path _).comps_eq
  unfold Part.arise
  split
  · exact taken
  · rfl

theorem untripSlots_comps (p : Part) : p.untripSlots.comps = p.comps := by
  unfold Part.untripSlots
  dsimp only
  split
  · exact restRequests_comps _
  · rfl

@[simp] theorem endTrip_comps (p : Part) (how : TripEnd) : (p.endTrip how).comps = p.comps :=
  (untripPath_path _).comps_eq.trans (untripSlots_comps _)

@[simp] theorem rearmDecision_comps (p : Part) : p.rearmDecision.comps = p.comps := by
  unfold Part.rearmDecision
  split
  · rfl
  · split
    · exact endTrip_comps _ _
    · rfl

theorem expireAbsence_comps (p : Part) : p.expireAbsence.comps = p.comps := by
  unfold Part.expireAbsence
  split
  · exact rearmDecision_comps _
  · rfl

theorem takeTripSet_comps (p : Part) (t : TripSet) : (p.takeTripSet t).comps = p.comps := by
  unfold Part.takeTripSet
  dsimp only
  split
  · exact rearmDecision_comps _
  · rfl

theorem expireClean_comps (p : Part) : p.expireClean.comps = p.comps := by
  unfold Part.expireClean
  split <;> rfl

theorem compStatus_comps (p : Part) (fault : Bool) : (p.compStatus fault).comps = p.comps := by
  unfold Part.compStatus
  dsimp only
  split
  · exact arise_comps _ _
  · split <;> rfl

@[simp] theorem breakAbsence_comps (p : Part) : p.breakAbsence.comps = p.comps := by
  unfold Part.breakAbsence
  split <;> rfl

theorem compTimeout_comps (p : Part) : p.compTimeout.comps = p.comps := by
  unfold Part.compTimeout
  split
  · exact breakAbsence_comps _
  · split
    · exact breakAbsence_comps _
    · exact (arise_comps _ _).trans (breakAbsence_comps _)

theorem watchDamper_comps (p : Part) (measured : Nat) : (p.watchDamper measured).comps = p.comps := by
  unfold Part.watchDamper
  split
  · rfl
  · split <;> rfl

@[simp] theorem intake_comps (p : Part) (r : Role) (sent reply : Frame) : (p.intake r sent reply).comps = p.comps := by
  have taken (s : StatusPayload) : (p.takeStatus r s).comps = p.comps := by
    unfold Part.takeStatus
    dsimp only
    split
    · exact compStatus_comps _ _
    · split <;> exact watchDamper_comps _ _
    · split <;> rfl
  unfold Part.intake
  split
  · split
    · exact taken _
    · rfl
  · rfl

@[simp] theorem intakeTimeout_comps (p : Part) (r : Role) : (p.intakeTimeout r).comps = p.comps := by
  unfold Part.intakeTimeout
  split
  · exact compTimeout_comps p
  · rfl

/-! ## The links and the scheduler -/

@[simp] theorem placeReply_comps (p : Part) (e : Egress) : (p.placeReply e).comps = p.comps :=
  (placeReply_edge p e).comps_eq

@[simp] theorem settle_comps (p : Part) : p.settle.comps = p.comps :=
  settle_induct (P := fun q => q.comps = p.comps)
    (fun q h => (placeAsks_edge q).comps_eq.trans h) (fun q h => (screenAll_edge q).comps_eq.trans h)
    (fun q c h _ _ => (take_edge q c).comps_eq.trans h) p rfl

theorem finish_comps (r : Answer) (code : Byte) : (r.finish code).comps = r.part.comps := by
  unfold Answer.finish
  refine (reply_edge _ _ _ _).comps_eq.trans ?_
  split <;> rfl

@[simp] theorem noAnswer_comps (p : Part) (f : Frame) : (p.noAnswer f).comps = p.comps :=
  (relayReply_edge p f _ _).comps_eq

theorem handTimeout_comps (p : Part) (t : Txn) : (p.handTimeout t).comps = p.comps := by
  unfold Part.handTimeout Part.inEitherOrder
  split
  · rfl
  · exact intakeTimeout_comps _ _
  · dsimp only
    split <;> simp
  · exact noAnswer_comps _ _

theorem timeOut_comps (p : Part) : p.timeOut.comps = p.comps := by
  unfold Part.timeOut
  split
  · exact handTimeout_comps _ _
  · rfl

@[simp] theorem discardCabinet_comps (p : Part) : p.discardCabinet.comps = p.comps := by
  unfold Part.discardCabinet
  split
  · exact timeOut_comps p
  · rfl

theorem closeWindow_comps (p : Part) : p.closeWindow.comps = p.comps := by
  unfold Part.closeWindow
  split
  · exact timeOut_comps _
  · rfl

theorem frameSent_comps (p : Part) : p.frameSent.comps = p.comps := by
  unfold Part.frameSent
  split
  · exact valueSent_comps _ _
  · rfl

theorem takeRelay_comps (p : Part) (f : Frame) : (p.takeRelay f).comps = p.comps := by
  unfold Part.takeRelay
  split
  · rfl
  · split
    · exact (queueRelay_edge _ _).comps_eq
    · exact (refuseRelay_edge _ _ _).comps_eq
    · exact (absorbRelay_edge _ _ _ _).comps_eq

theorem reachDue_comps (p : Part) (node : Nat) : (p.reachDue node).comps = p.comps := by
  unfold Part.reachDue
  split <;> rfl

/-- READINGS that find a place or not (R192). -/
theorem writeReadings_comps (p : Part) (node : Nat) (items : List Item) :
    (p.writeReadings node items).comps = p.comps := by
  unfold Part.writeReadings Part.placeReadings
  split
  · rfl
  · split <;> rfl

theorem transmit_comps (p : Part) : p.transmit.comps = p.comps := by
  unfold Part.transmit
  split
  · rfl
  · split <;> rfl

theorem warmRestartRequest_comps (p : Part) (a : Args Unit) : (p.warmRestartRequest a).comps = p.comps := by
  have judged : (p.judge false a fun _ q => q.accept []).part = p := by
    unfold Part.judge
    split
    · rfl
    · split <;> rfl
  unfold Part.warmRestartRequest
  split
  · rfl
  · split
    · rfl
    · dsimp only
      split
      · exact placeReply_comps _ _
      · rw [finish_comps, judged]

/-! ## Loads and timers -/

@[simp] theorem failLoad_comps (p : Part) : p.failLoad.comps = p.comps := by
  unfold Part.failLoad
  split <;> rfl

theorem expireLoad_comps (p : Part) : p.expireLoad.comps = p.comps := by
  unfold Part.expireLoad
  split
  · split
    · exact failLoad_comps p
    · rfl
  · rfl

theorem expireFanStop_comps (p : Part) (d : DoorId) : (p.expireFanStop d).comps = p.comps := by
  unfold Part.expireFanStop
  split <;> rfl

theorem expireAjar_comps (p : Part) (d : DoorId) : (p.expireAjar d).comps = p.comps := by
  unfold Part.expireAjar
  split <;> rfl

theorem expireRefresh_comps (p : Part) (r : Role) : (p.expireRefresh r).comps = p.comps := by
  unfold Part.expireRefresh
  split <;> rfl

theorem expireOffCycle_comps (p : Part) : p.expireOffCycle.comps = p.comps := by
  unfold Part.expireOffCycle
  split <;> rfl

theorem expireDeviation_comps (p : Part) : p.expireDeviation.comps = p.comps := by
  unfold Part.expireDeviation
  split <;> rfl

/-! ## Changes of mode -/

theorem pathLeaves_comps (p : Part) (old : Mode) : (p.pathLeaves old).comps = p.comps := by
  unfold Part.pathLeaves
  split
  · exact (ask_comps _ _ _).trans (clearPath_path _ _).comps_eq
  · split
    · rfl
    · dsimp only
      split
      · exact ask_comps _ _ _
      · rfl

theorem defrostChange_comps (p : Part) : p.defrostChange.comps = p.comps := by
  unfold Part.defrostChange
  split
  · exact cutDefrost_comps _ _
  · split
    · exact (endRecover_path p).comps_eq
    · rfl
  · rfl

theorem slotsChange_comps (p : Part) : p.slotsChange.comps = p.comps := by
  unfold Part.slotsChange
  split
  · exact restRequests_comps p
  · exact restRequests_comps p
  · rfl

@[simp] theorem raiseBlindLost_comps (p : Part) : p.raiseBlindLost.comps = p.comps := by
  have raised (q : Part) (c : Comp) : (if (q.comp c).lost then q.raiseBlind c else q).comps = q.comps := by
    split <;> rfl
  simp only [Part.raiseBlindLost, List.foldl_cons, List.foldl_nil, raised]

end Sys2Proof.Machine
end

section
/-! The effective setpoints follow their stacks through what the compartment unit does to its records, and through the
announcements that reach it from the points and the doors. -/

namespace Sys2Proof.Machine

/-- Every compartment's effective setpoint is the one that R56 gives. -/
def Part.setpointsFollow (p : Part) : Prop := ∀ c, (p.comp c).followsStack

theorem setpointsFollow_of_comps {p q : Part} (same : q.comps = p.comps) (h : p.setpointsFollow) :
    q.setpointsFollow := by
  unfold Part.setpointsFollow Part.comp
  rw [same]
  exact h

theorem setpointsFollow_mapWith {p q : Part} {f : Comp → CompRec → CompRec} (mapped : q.comps = p.comps.mapWith f)
    (h : ∀ c, (f c (p.comp c)).followsStack) : q.setpointsFollow := by
  intro c
  rw [Part.comp, mapped, Comps.get_mapWith]
  exact h c

/-! ## The compartment unit -/

theorem setComp_comps (p : Part) (c : Comp) (r : CompRec) : (p.setComp c r).comps = p.comps.set c r := by
  unfold Part.setComp
  dsimp only
  split <;> rfl

/-- A record that follows its stack put in the place of another. -/
theorem setComp_follows {p : Part} {c : Comp} {r : CompRec} (others : ∀ d, d ≠ c → (p.comp d).followsStack)
    (hr : r.followsStack) : (p.setComp c r).setpointsFollow := by
  intro d
  rw [Part.comp, setComp_comps]
  by_cases same : d = c
  · rw [same, Comps.get_set_self]
    exact hr
  · rw [Comps.get_set_other _ _ same]
    exact others d same

theorem setComp_demandOnly_follows {p : Part} {c : Comp} {r : CompRec} (h : p.setpointsFollow)
    (k : CompRec.DemandOnly (p.comp c) r) : (p.setComp c r).setpointsFollow :=
  setComp_follows (fun d _ => h d) (k.follows (h c))

theorem setComps_follows {p : Part} {f : Comp → CompRec → CompRec} (h : p.setpointsFollow)
    (hf : ∀ c r, r.followsStack → (f c r).followsStack) : (p.setComps f).setpointsFollow := by
  have ff := setComp_follows (c := .ff) (fun d _ => h d) (hf .ff _ (h .ff))
  have cd := setComp_follows (c := .cd) (fun d _ => ff d) (hf .cd _ (h .cd))
  exact setComp_follows (fun d _ => cd d) (hf .fz _ (h .fz))

theorem setComps_demandOnly_follows {p : Part} {f : Comp → CompRec → CompRec} (h : p.setpointsFollow)
    (hf : ∀ c r, CompRec.DemandOnly r (f c r)) : (p.setComps f).setpointsFollow :=
  setComps_follows h fun c r => (hf c r).follows

theorem handClaims_follows {p : Part} (h : p.setpointsFollow) : p.handClaims.setpointsFollow :=
  setpointsFollow_of_comps (handClaims_comps p) h

theorem compsTake_follows {p : Part} {f : Comp → CompRec → CompRec} (h : p.setpointsFollow)
    (hf : ∀ c r, r.followsStack → (f c r).followsStack) : (p.compsTake f).setpointsFollow :=
  handClaims_follows (setComps_follows h hf)

/-- After the recomputation (R57) a compartment's effective setpoint follows, whatever was stored. -/
theorem recompute_follows {p : Part} {c : Comp} (others : ∀ d, d ≠ c → (p.comp d).followsStack) :
    (p.recompute c).setpointsFollow :=
  handClaims_follows (setComp_follows others
    ((CompRec.inActive_demandOnly _ (CompRec.reevaluate_demandOnly _)).follows (recomputed_follows _)))

/-- A record replaced and the effective setpoint recomputed. -/
theorem set_recompute_follows {p : Part} (c : Comp) (r : CompRec) (h : p.setpointsFollow) :
    (({ p with comps := p.comps.set c r } : Part).recompute c).setpointsFollow :=
  recompute_follows fun d other => by
    rw [Part.comp, Comps.get_set_other _ _ other]
    exact h d

theorem setStack_follows {p : Part} (c : Comp) (l : List Override) (h : p.setpointsFollow) :
    (p.setStack c l).setpointsFollow := set_recompute_follows c _ h

theorem storeBase_follows {p : Part} (c : Comp) (v : Int) (h : p.setpointsFollow) :
    (p.storeBase c v).setpointsFollow := set_recompute_follows c _ h

theorem doorRecovery_follows {p : Part} (c : Comp) (offset : Int) (duration : Nat) (h : p.setpointsFollow) :
    (p.doorRecovery c offset duration).setpointsFollow := by
  unfold Part.doorRecovery
  dsimp only
  split
  · exact setStack_follows _ _ h
  · split
    · exact setStack_follows _ _ h
    · exact h

theorem expireOverride_follows {p : Part} (c : Comp) (slot : Nat) (h : p.setpointsFollow) :
    (p.expireOverride c slot).setpointsFollow := by
  unfold Part.expireOverride
  split
  · split
    · exact setStack_follows _ _ h
    · exact h
  · exact h

theorem expireBlind_follows {p : Part} (c : Comp) (h : p.setpointsFollow) : (p.expireBlind c).setpointsFollow := by
  unfold Part.expireBlind
  dsimp only
  split
  · split
    · exact handClaims_follows (setComp_demandOnly_follows h (CompRec.blindRest_demandOnly _))
    · exact handClaims_follows (setComp_demandOnly_follows h (CompRec.blindCall_demandOnly _))
    · exact h
  · exact h

theorem expireWarm_follows {p : Part} (c : Comp) (h : p.setpointsFollow) : (p.expireWarm c).setpointsFollow :=
  setComp_demandOnly_follows h (CompRec.expireWarm_demandOnly _)

theorem takeAir_follows {p : Part} (c : Comp) (a : Ann) (l : LostChange) (h : p.setpointsFollow) :
    (p.takeAir c a l).setpointsFollow :=
  have followed := setComp_demandOnly_follows h
    ((CompRec.inActive_demandOnly p.active (CompRec.warmAnn_demandOnly _ a)).after
      (CompRec.follow_demandOnly (p.comp c) a l))
  setComp_demandOnly_follows followed (CompRec.inActive_demandOnly _ (CompRec.takeAnn_demandOnly _ a l))

theorem announceAir_follows {p : Part} (c : Comp) (a : Ann) (l : LostChange) (h : p.setpointsFollow) :
    (p.announceAir c a l).setpointsFollow := by
  have alarm (q : Part) : (if p.active = true ∧ l = .begins then q.raiseBlind c else q).comps = q.comps := by
    split <;> rfl
  have handed := handClaims_follows (setpointsFollow_of_comps (alarm _) (takeAir_follows c a l h))
  cases a with
  | value v => exact setpointsFollow_of_comps (passValue_path _ _).comps_eq handed
  | noValue => exact handed
  | nothing => exact handed

/-! ## Doors and points -/

theorem closeDoor_follows {p : Part} (d : DoorId) (how : WidthLevel) (h : p.setpointsFollow) :
    (p.closeDoor d how).setpointsFollow := by
  unfold Part.closeDoor Part.testRecovery
  dsimp only
  split
  · exact doorRecovery_follows _ _ _ h
  · exact h

theorem announceDoor_follows {p : Part} (d : DoorId) (a : Ann) (h : p.setpointsFollow) :
    (p.announceDoor d a).setpointsFollow := by
  unfold Part.announceDoor
  split
  · exact h
  · split
    · exact closeDoor_follows _ _ h
    · exact h
  · split
    · split <;> exact h
    · split
      · exact closeDoor_follows _ _ h
      · exact h

theorem announce_follows {p : Part} (x : Announcement) (h : p.setpointsFollow) : (p.announce x).setpointsFollow := by
  unfold Part.announce
  split
  · exact announceAir_follows _ _ _ h
  · exact announceAir_follows _ _ _ h
  · exact announceAir_follows _ _ _ h
  · split
    · exact setpointsFollow_of_comps (takeFFCoil_path _ _).comps_eq h
    · exact h
  · exact setpointsFollow_of_comps (announceCoil_path _ _).comps_eq h
  · exact announceDoor_follows _ _ h
  · exact announceDoor_follows _ _ h
  · exact announceDoor_follows _ _ h
  · exact announceDoor_follows _ _ h
  · exact h

theorem foldl_announce_follows (l : List Announcement) :
    ∀ {p : Part}, p.setpointsFollow → (l.foldl Part.announce p).setpointsFollow := by
  induction l with
  | nil => exact id
  | cons x l ih => exact fun h => ih (announce_follows x h)

theorem announceAll_follows {p : Part} (l : List Announcement) (h : p.setpointsFollow) :
    (p.announceAll l).setpointsFollow := by
  unfold Part.announceAll
  split
  · exact h
  · exact announce_follows _ h
  · exact foldl_announce_follows _ h

theorem resolveAfresh_follows {p : Part} (sampled : Option PointId) (affected : PointId → Bool)
    (h : p.setpointsFollow) : (p.resolveAfresh sampled affected).setpointsFollow := announceAll_follows _ h

theorem resolveFrom_follows {p : Part} (sampled : Option PointId) (i : PointId) (h : p.setpointsFollow) :
    (p.resolveFrom sampled i).setpointsFollow := resolveAfresh_follows _ _ h

theorem takeSample_follows {p : Part} (i : PointId) (v : Int) (n : Nat) (h : p.setpointsFollow) :
    (p.takeSample i v n).setpointsFollow :=
  resolveFrom_follows _ _ (setpointsFollow_of_comps (Part.setPoint_comps _ _ _) h)

theorem raiseIfTargeted_comps (p : Part) (i : PointId) : (p.raiseIfTargeted i).comps = p.comps := by
  unfold Part.raiseIfTargeted
  split <;> rfl

theorem takeOutOfSpan_follows {p : Part} (i : PointId) (n : Nat) (h : p.setpointsFollow) :
    (p.takeOutOfSpan i n).setpointsFollow := by
  unfold Part.takeOutOfSpan
  dsimp only
  split
  · exact h
  · exact resolveFrom_follows _ _ (setpointsFollow_of_comps (raiseIfTargeted_comps _ _) h)

theorem expireStale_follows {p : Part} (i : PointId) (h : p.setpointsFollow) : (p.expireStale i).setpointsFollow := by
  unfold Part.expireStale
  dsimp only
  split
  · exact resolveFrom_follows _ _ (setpointsFollow_of_comps (raiseIfTargeted_comps _ _) h)
  · exact h

theorem deliver_follows {p : Part} (d : Delivery) (h : p.setpointsFollow) : (p.deliver d).1.setpointsFollow := by
  have taken (v : Int) := takeSample_follows d.point v d.count h
  have out := takeOutOfSpan_follows d.point d.count h
  unfold Part.deliver
  generalize p.takeSample d.point = sampled at *
  generalize p.takeOutOfSpan d.point d.count = faulty at *
  split
  · exact h
  · split
    · exact taken _
    · split
      · exact h
      · split
        · exact out
        · exact taken _

theorem takeChannel_follows (node : Nat) (ready : Bool) (x : ChannelEntry) {p : Part} (h : p.setpointsFollow) :
    (p.takeChannel node ready x).1.setpointsFollow := by
  unfold Part.takeChannel
  split
  · exact h
  · split
    · exact h
    · cases ready with
      | true => exact deliver_follows _ h
      | false => exact h

theorem takeChannels_follows (node : Nat) (ready : Bool) (l : List ChannelEntry) :
    ∀ {p : Part}, p.setpointsFollow → (p.takeChannels node ready l).1.setpointsFollow := by
  induction l with
  | nil => exact id
  | cons x l ih =>
    intro p h
    unfold Part.takeChannels
    exact ih (takeChannel_follows node ready x h)

theorem takeSampleReply_follows {p : Part} (f : Frame) (h : p.setpointsFollow) :
    (p.takeSampleReply f).setpointsFollow := by
  unfold Part.takeSampleReply
  split
  · exact h
  · exact setpointsFollow_of_comps (writeReadings_comps _ _ _) (takeChannels_follows _ _ _ h)

theorem handReply_follows {p : Part} (t : Txn) (f : Frame) (h : p.setpointsFollow) :
    (p.handReply t f).setpointsFollow := by
  unfold Part.handReply
  split
  · split
    · exact takeSampleReply_follows _ h
    · exact h
  · split
    · exact setpointsFollow_of_comps (intake_comps _ _ _ _) h
    · exact h
  · refine setpointsFollow_of_comps ?_ h
    unfold Part.intakeRelayed
    split
    · split <;> simp
    · simp

theorem receive_follows {p : Part} (f : Frame) (h : p.setpointsFollow) : (p.receive f).setpointsFollow := by
  unfold Part.receive
  split
  · split
    · exact handReply_follows _ _ h
    · exact setpointsFollow_of_comps (discardCabinet_comps p) h
  · exact h

end Sys2Proof.Machine
end

section
/-! The effective setpoints follow through a second, a change of mode, a restart and a close of any table. -/

namespace Sys2Proof.Machine

/-! ## The second, changes of mode and restarts -/

theorem tickSecond_follows {p : Part} (h : p.setpointsFollow) : p.tickSecond.setpointsFollow := by
  have accumulated (q : Part) : q.accumulate.comps = q.comps := by
    unfold Part.accumulate
    split <;> rfl
  have counted : (({ p with seconds := p.seconds + 1 } : Part).accumulate.tickDefrost).setpointsFollow :=
    setpointsFollow_of_comps (p := p) (accumulated _) h
  refine setpointsFollow_of_comps (countBlindSecond_path _).comps_eq ?_
  exact setpointsFollow_mapWith rfl fun c => tick_follows (counted c)

theorem pointsChange_follows {p : Part} (old : Mode) (h : p.setpointsFollow) :
    (p.pointsChange old).setpointsFollow := by
  unfold Part.pointsChange
  split
  · exact h
  · split
    · exact resolveAfresh_follows _ _ h
    · exact h

theorem compsChange_follows {p : Part} (old : Mode) (h : p.setpointsFollow) : (p.compsChange old).setpointsFollow := by
  unfold Part.compsChange
  split
  · exact handClaims_follows (setComps_demandOnly_follows h fun _ => CompRec.hold_demandOnly)
  · exact handClaims_follows (setComps_demandOnly_follows h fun _ => CompRec.hold_demandOnly)
  · exact handClaims_follows (setComps_demandOnly_follows h fun _ => CompRec.await_demandOnly)
  · exact handClaims_follows (setComps_demandOnly_follows
      (setpointsFollow_of_comps (raiseBlindLost_comps p) h) fun _ => CompRec.resume_demandOnly)
  · exact h

theorem changeMode_follows {p : Part} (m : Mode) (o : Option Origin) (h : p.setpointsFollow) :
    (p.changeMode m o).setpointsFollow := by
  have left : (({ p with mode := m, origin := o } : Part).pathLeaves p.mode).setpointsFollow :=
    setpointsFollow_of_comps (p := p) (pathLeaves_comps _ _) h
  have changed := setpointsFollow_of_comps ((slotsChange_comps _).trans (defrostChange_comps _))
    (compsChange_follows p.mode (pointsChange_follows p.mode left))
  unfold Part.changeMode
  dsimp only
  split
  · exact setpointsFollow_of_comps (enterRegulate_path _).comps_eq changed
  · exact changed

theorem partInitial_follows : Part.initial.setpointsFollow := fun c => by
  cases c <;> exact initial_follows _

/-- The restart clamps the power-on base into the limits in force (R72), so that with limits in order the effective
setpoint, which it sets to the base, follows. -/
theorem restart_follows {p : Part} (ordered : ∀ c, (p.comp c).spMin ≤ (p.comp c).spMax) :
    p.restart.setpointsFollow := by
  refine setpointsFollow_of_comps ((failLoad_comps _).trans (handDF_path _ _).comps_eq) ?_
  exact setpointsFollow_mapWith (p := p) (f := fun c r => r.restarted c) rfl fun c => restarted_follows (ordered c) c

theorem restartTakesEffect_follows {p : Part} (ordered : ∀ c, (p.comp c).spMin ≤ (p.comp c).spMax)
    (h : p.setpointsFollow) : p.restartTakesEffect.setpointsFollow := by
  unfold Part.restartTakesEffect
  split
  · exact restart_follows ordered
  · exact h

/-! ## Closes of tables -/

theorem takePathLimits_comps (p : Part) (t : Table) : (p.takePathLimits t).comps = p.comps :=
  (checkTimeout_comps _).trans (refitSpeed_path _).comps_eq

theorem takePathTuning_comps (p : Part) (t : Table) : (p.takePathTuning t).comps = p.comps :=
  (refitSpeed_path { p with pathTuning := pathTuningOf (t.fields 0) }).comps_eq

theorem takeDefrostSet_comps (p : Part) (t : Table) : (p.takeDefrostSet t).comps = p.comps :=
  ((testDeferral_path _).trans (checkTermination_path _)).comps_eq

theorem takeClose_follows {p : Part} (id : TableId) (t : Table) (h : p.setpointsFollow) :
    (p.takeClose id t).setpointsFollow := by
  unfold Part.takeClose
  split
  · exact resolveAfresh_follows _ _ h
  · split <;> exact h
  · exact h
  · exact setpointsFollow_of_comps (takeTripSet_comps _ _) h
  · exact compsTake_follows h fun _ _ hr =>
      (CompRec.inActive_demandOnly _ (CompRec.reevaluate_demandOnly _)).follows (takeLimits_follows hr _)
  · exact setpointsFollow_of_comps (takePathLimits_comps _ _) h
  · exact compsTake_follows h fun _ r => (CompRec.takeTuning_demandOnly r _ _).follows
  · exact setpointsFollow_of_comps (takePathTuning_comps _ _) h
  · exact setpointsFollow_of_comps (takeDefrostSet_comps _ _) h
  · split <;> exact h
  · exact h
  · exact h

end Sys2Proof.Machine
end

section
/-! The effective setpoints follow through every request by the shared handling of R191, and so through every step. -/

namespace Sys2Proof.Machine

/-! ## Requests -/

/-- The shared handling of a request keeps the effective setpoints where the request's own effect does. -/
theorem request_follows {α : Type} {p : Part} (code : Byte) (exempt : Bool) (a : Args α) {act : α → Part → Answer}
    {dress : Answer → Answer} (h : p.setpointsFollow) (acts : ∀ x, (act x p).part.setpointsFollow)
    (dressed : ∀ r, (dress r).part = r.part) : (p.request code exempt a act dress).setpointsFollow := by
  have judged : (p.judge exempt a act).part.setpointsFollow := by
    unfold Part.judge
    split
    · exact h
    · cases a with
      | illFormed => exact h
      | form x => exact acts x
  unfold Part.request
  split
  · exact h
  · split
    · exact h
    · refine setpointsFollow_of_comps (finish_comps _ _) ?_
      rw [dressed]
      exact judged

theorem withComp_follows {p : Part} (b : Byte) {k : Comp → Answer} (h : p.setpointsFollow)
    (hk : ∀ c, (k c).part.setpointsFollow) : (p.withComp b k).part.setpointsFollow := by
  unfold Part.withComp
  split
  · exact h
  · exact hk _

theorem setSetpointRequest_follows {p : Part} (a : SetpointArgs) (h : p.setpointsFollow) :
    (p.setSetpointRequest a).part.setpointsFollow := withComp_follows _ h fun c => storeBase_follows c _ h

theorem pushRequest_follows {p : Part} (a : PushArgs) (h : p.setpointsFollow) :
    (p.pushRequest a).part.setpointsFollow := by
  refine withComp_follows _ h fun c => ?_
  split
  · exact h
  · split
    · exact h
    · split
      · exact h
      · exact setStack_follows _ _ h

theorem popRequest_follows {p : Part} (b : Byte) (h : p.setpointsFollow) : (p.popRequest b).part.setpointsFollow := by
  refine withComp_follows _ h fun c => ?_
  split
  · exact h
  · exact setStack_follows _ _ h

theorem clearRequest_follows {p : Part} (b : Byte) (h : p.setpointsFollow) :
    (p.clearRequest b).part.setpointsFollow := by
  unfold Part.clearRequest
  split
  · exact h
  · refine compsTake_follows h fun c r hr => ?_
    split
    · exact clearStack_follows hr _
    · exact hr

theorem injectRequest_follows {p : Part} (a : InjectArgs) (h : p.setpointsFollow) :
    (p.injectRequest a).part.setpointsFollow := by
  unfold Part.injectRequest
  split
  · exact h
  · split
    · exact h
    · split
      · exact h
      · split
        · exact h
        · split
          · exact h
          · exact deliver_follows _ h

theorem decideMode_follows {p : Part} (t : ModeTarget) (h : p.setpointsFollow) :
    (p.decideMode t).part.setpointsFollow := by
  have refused (s : Status) : (p.refuse s).part.setpointsFollow := h
  have accepted (m : Mode) (o : Option Origin) : (p.acceptMode m o).part.setpointsFollow := changeMode_follows m o h
  have either {test : Bool} {x y : Answer} (hx : x.part.setpointsFollow) (hy : y.part.setpointsFollow) :
      (if test then x else y).part.setpointsFollow := by
    split
    · exact hx
    · exact hy
  unfold Part.decideMode
  split
  · split
    · exact accepted _ _
    · exact refused _
  · split
    · exact h
    · split
      · exact either (accepted _ _) (refused _)
      · exact accepted _ _
      · exact accepted _ _
      · exact either (refused _) (accepted _ _)
      · exact either (refused _) (accepted _ _)
      · exact accepted _ _
      · exact either (accepted _ _) (refused _)
      · exact refused _

theorem setModeRequest_follows {p : Part} (b : Byte) (h : p.setpointsFollow) :
    (p.setModeRequest b).part.setpointsFollow := by
  unfold Part.setModeRequest
  split
  · exact h
  · exact decideMode_follows _ h

theorem tableCloseRequest_follows {p : Part} (b : Byte) (h : p.setpointsFollow) :
    (p.tableCloseRequest b).part.setpointsFollow := by
  unfold Part.tableCloseRequest
  split
  · exact h
  · exact takeClose_follows _ _ h

theorem tableAbortRequest_follows {p : Part} (b : Byte) (h : p.setpointsFollow) :
    (p.tableAbortRequest b).part.setpointsFollow := by
  unfold Part.tableAbortRequest
  split
  · exact h
  · exact setpointsFollow_of_comps (failLoad_comps p) h

theorem queryRequest_comps (a : QueryArgs) (p : Part) : (p.queryRequest a).part.comps = p.comps := by
  unfold Part.queryRequest
  split
  · rfl
  · dsimp only
    split <;> rfl

theorem setLockRequest_comps (b : Byte) (p : Part) : (p.setLockRequest b).part.comps = p.comps := by
  unfold Part.setLockRequest
  split
  · rfl
  · split <;> rfl

theorem clearFaultsRequest_comps (x : Half) (p : Part) : (p.clearFaultsRequest x).part.comps = p.comps := by
  unfold Part.clearFaultsRequest
  split <;> rfl

theorem setMaskRequest_comps (x : Half) (p : Part) : (p.setMaskRequest x).part.comps = p.comps := by
  unfold Part.setMaskRequest
  split <;> rfl

theorem tableOpenRequest_comps (a : TableOpenArgs) (p : Part) : (p.tableOpenRequest a).part.comps = p.comps := by
  unfold Part.tableOpenRequest
  repeat' split
  all_goals rfl

theorem tableDataRequest_comps (a : TableDataArgs) (p : Part) : (p.tableDataRequest a).part.comps = p.comps := by
  unfold Part.tableDataRequest
  split
  · rfl
  · split <;> rfl

theorem tableReadRequest_comps (a : TableReadArgs) (p : Part) : (p.tableReadRequest a).part.comps = p.comps := by
  unfold Part.tableReadRequest
  split
  · rfl
  · split <;> rfl

theorem swapRequest_comps (b : Byte) (p : Part) : (p.swapRequest b).part.comps = p.comps := by
  unfold Part.swapRequest
  split
  · rfl
  · split
    · rfl
    · split <;> rfl

theorem defrostStartRequest_comps (p : Part) : (p.defrostStartRequest ()).part.comps = p.comps := by
  unfold Part.defrostStartRequest
  split
  · exact (becomeDue_path p).comps_eq
  · rfl
  · rfl

theorem defrostHoldRequest_comps (p : Part) : (p.defrostHoldRequest ()).part.comps = p.comps := by
  unfold Part.defrostHoldRequest
  split
  · rfl
  · split <;> rfl

theorem defrostResumeRequest_comps (p : Part) : (p.defrostResumeRequest ()).part.comps = p.comps := by
  unfold Part.defrostResumeRequest
  split
  · rfl
  · exact resumeHeat_comps _

theorem loadShedRequest_comps (b : Byte) (p : Part) : (p.loadShedRequest b).part.comps = p.comps := by
  unfold Part.loadShedRequest
  split
  · rfl
  · exact (changeShed_path _ _).comps_eq

theorem tripRequest_comps (p : Part) : (p.tripRequest ()).part.comps = p.comps := by
  unfold Part.tripRequest
  split
  · rfl
  · exact arise_comps _ _

theorem rearmRequest_comps (p : Part) : (p.rearmRequest ()).part.comps = p.comps := by
  unfold Part.rearmRequest
  split
  · rfl
  · exact endTrip_comps _ _

/-! ## Every step -/

/-- The end of an event leaves the compartments alone, so a command keeps the effective setpoints where its own effect
does. -/
theorem after_follows {s t : State} {p : Part} (e : s.after p = .next t) (h : p.setpointsFollow) :
    t.part.setpointsFollow := by
  cases e
  exact setpointsFollow_of_comps (settle_comps p) h

theorem after_follows_of_comps {s t : State} {p : Part} (e : s.after p = .next t) (h : s.part.setpointsFollow)
    (same : p.comps = s.part.comps) : t.part.setpointsFollow := after_follows e (setpointsFollow_of_comps same h)

/-- A request, dressed or not, of which the owning block's effect keeps the effective setpoints. -/
theorem request_after_follows {α : Type} {s t : State} {code : Byte} {exempt : Bool} {a : Args α}
    {act : α → Part → Answer} {dress : Answer → Answer}
    (e : s.after (s.part.request code exempt a act dress) = .next t) (h : s.part.setpointsFollow)
    (acts : ∀ x, (act x s.part).part.setpointsFollow)
    (dressed : ∀ r, (dress r).part = r.part := by exact fun _ => rfl) : t.part.setpointsFollow :=
  after_follows e (request_follows _ _ _ h acts dressed)

/-- A request of which the owning block's effect leaves the compartments alone. -/
theorem request_after_follows_of_comps {α : Type} {s t : State} {code : Byte} {exempt : Bool} {a : Args α}
    {act : α → Part → Answer} {dress : Answer → Answer}
    (e : s.after (s.part.request code exempt a act dress) = .next t) (h : s.part.setpointsFollow)
    (same : ∀ x, (act x s.part).part.comps = s.part.comps)
    (dressed : ∀ r, (dress r).part = r.part := by exact fun _ => rfl) : t.part.setpointsFollow :=
  request_after_follows e h (fun x => setpointsFollow_of_comps (same x) h) dressed

theorem exec_follows {i : Instr} {s t : State} (ordered : ∀ c, (s.part.comp c).spMin ≤ (s.part.comp c).spMax)
    (h : s.part.setpointsFollow) (e : exec i s = .next t) : t.part.setpointsFollow := by
  cases i with
  | powerOnReset => cases e; exact partInitial_follows
  | warmRestart a => exact after_follows_of_comps e h (warmRestartRequest_comps _ _)
  | restartTakesEffect => exact after_follows e (restartTakesEffect_follows ordered h)
  | identify a => exact request_after_follows_of_comps e h fun _ => rfl
  | query a => exact request_after_follows_of_comps e h fun x => queryRequest_comps x _
  | setMode a => exact request_after_follows e h fun x => setModeRequest_follows x h
  | setLock a => exact request_after_follows_of_comps e h fun x => setLockRequest_comps x _
  | tableOpen a => exact request_after_follows_of_comps e h fun x => tableOpenRequest_comps x _
  | tableData a => exact request_after_follows_of_comps e h fun x => tableDataRequest_comps x _
  | tableClose a => exact request_after_follows e h fun x => tableCloseRequest_follows x h
  | tableAbort a => exact request_after_follows e h fun x => tableAbortRequest_follows x h
  | tableRead a => exact request_after_follows_of_comps e h fun x => tableReadRequest_comps x _
  | swapMap a => exact request_after_follows_of_comps e h fun x => swapRequest_comps x _
  | setSetpoint a => exact request_after_follows e h fun x => setSetpointRequest_follows x h
  | pushOverride a => exact request_after_follows e h fun x => pushRequest_follows x h
  | popOverride a => exact request_after_follows e h fun x => popRequest_follows x h
  | clearOverrides a => exact request_after_follows e h fun x => clearRequest_follows x h
  | injectSample a => exact request_after_follows e h fun x => injectRequest_follows x h
  | defrostStart a => exact request_after_follows_of_comps e h fun _ => defrostStartRequest_comps _
  | defrostHold a => exact request_after_follows_of_comps e h fun _ => defrostHoldRequest_comps _
  | defrostResume a => exact request_after_follows_of_comps e h fun _ => defrostResumeRequest_comps _
  | loadShed a => exact request_after_follows_of_comps e h fun x => loadShedRequest_comps x _
  | trip a => exact request_after_follows_of_comps e h fun _ => tripRequest_comps _
  | rearm a => exact request_after_follows_of_comps e h fun _ => rearmRequest_comps _
  | clearFaults a => exact request_after_follows_of_comps e h fun x => clearFaultsRequest_comps x _
  | setAttentionMask a => exact request_after_follows_of_comps e h fun x => setMaskRequest_comps x _
  | doorRead a => exact request_after_follows_of_comps e h fun _ => rfl
  | unknownRequest code => exact request_after_follows_of_comps e h fun _ => rfl
  | relayFrame f => exact after_follows_of_comps e h (takeRelay_comps _ _)
  | mainFrameDiscard => cases e; exact h
  | egressTransmit => exact after_follows_of_comps e h (transmit_comps _)
  | secondTick => exact after_follows e (tickSecond_follows h)
  | staleTimerExpiry i => exact after_follows e (expireStale_follows i h)
  | overrideExpiry c slot => exact after_follows e (expireOverride_follows c slot h)
  | blindTimerExpiry c => exact after_follows e (expireBlind_follows c h)
  | warmAlarmExpiry c => exact after_follows e (expireWarm_follows c h)
  | switchCompletion => exact after_follows_of_comps e h (completeSwitch_path _).comps_eq
  | minimumHoldExpiry => exact after_follows_of_comps e h (expireMinHold_path _).comps_eq
  | maximumHoldExpiry => exact after_follows_of_comps e h (expireMaxHold_path _).comps_eq
  | defrostDue => exact after_follows_of_comps e h (fallDue_path _).comps_eq
  | shedDeferralRunOut => exact after_follows_of_comps e h (runOutDeferral_path _).comps_eq
  | heatTimeout => exact after_follows_of_comps e h (checkTimeout_comps _)
  | budgetExhaustion => exact after_follows_of_comps e h (exhaustBudget_comps _)
  | dripTimerExpiry => exact after_follows_of_comps e h (completeDefrost_comps _)
  | recoverTimerExpiry => exact after_follows_of_comps e h (expireRecover_path _).comps_eq
  | fanStopTimerExpiry d => exact after_follows_of_comps e h (expireFanStop_comps _ _)
  | ajarTimerExpiry d => exact after_follows_of_comps e h (expireAjar_comps _ _)
  | refreshTimerExpiry r => exact after_follows_of_comps e h (expireRefresh_comps _ _)
  | offCycleTimerExpiry => exact after_follows_of_comps e h (expireOffCycle_comps _)
  | deviationTimerExpiry => exact after_follows_of_comps e h (expireDeviation_comps _)
  | absenceTimerExpiry => exact after_follows_of_comps e h (expireAbsence_comps _)
  | cleanTimerExpiry => exact after_follows_of_comps e h (expireClean_comps _)
  | loadTimerExpiry => exact after_follows_of_comps e h (expireLoad_comps _)
  | pollDue node => exact after_follows_of_comps e h (reachDue_comps _ _)
  | cabinetFrameSent => exact after_follows_of_comps e h (frameSent_comps _)
  | cabinetReply f => exact after_follows e (receive_follows f h)
  | cabinetFrameDiscard => exact after_follows_of_comps e h (discardCabinet_comps _)
  | replyWindowTimeout => exact after_follows_of_comps e h (closeWindow_comps _)

theorem step_follows {s t : State} (ordered : ∀ c, (s.part.comp c).spMin ≤ (s.part.comp c).spMax)
    (h : s.part.setpointsFollow) (e : step s = .next t) : t.part.setpointsFollow := by
  unfold step at e
  split at e
  case h_1 =>
    cases e
    exact setpointsFollow_of_comps (settle_comps _) h
  case h_2 c rest _ => exact exec_follows (s := { s with pending := rest }) ordered h e

/-! ## The obligation -/

/-- Settles O28: every operation that touches a base, a limit or a stack recomputes the effective setpoint, all others
leave the four alone, and a restart puts its base within the limits. -/
theorem effectiveSetpointFollowsTheStack : Obligations.EffectiveSetpointFollowsTheStack := by
  unfold Obligations.EffectiveSetpointFollowsTheStack
  refine ⟨partInitial_follows, fun s t within h e => ?_, fun r => ruled_bounds⟩
  exact step_follows (fun c => (within c).1.trans (within c).2) h e

end Sys2Proof.Machine
end

section
/-! What a replaced stack does to the part (R56, R57, R59): the compartment's record afterwards, and everything else that
the recomputation and the hand-over of the claims reach. -/

namespace Sys2Proof.Machine

/-! ## Flags -/

theorem Flag.row_injective : Function.Injective Flag.row :=
  have back : Function.LeftInverse Flag.ofNat Flag.row := fun f => by cases f <;> rfl
  back.injective

theorem Flag.row_lt (f : Flag) : f.row < 12 := by
  cases f <;> decide

theorem hasFlag_raise (p : Part) (f g : Flag) : (p.raise f).hasFlag g = (p.hasFlag g || decide (f = g)) := by
  have within : g.row < 12 := g.row_lt
  have same : g.row = f.row ↔ f = g := Flag.row_injective.eq_iff.trans eq_comm
  simp [Part.hasFlag, Part.raise, Flag.bit, within, same]

theorem OnlyRaises.of_flags {l : List Flag} {p q : Part} (same : q.flags = p.flags) : OnlyRaises l p q := by
  intro f
  simp [Part.hasFlag, same]

theorem OnlyRaises.trans {l : List Flag} {p q r : Part} (h : OnlyRaises l p q) (k : OnlyRaises l q r) :
    OnlyRaises l p r :=
  fun f => ⟨fun set => (k f).1 ((h f).1 set), fun out => ((k f).2 out).trans ((h f).2 out)⟩

theorem raise_onlyRaises (p : Part) (f : Flag) : OnlyRaises [f] p (p.raise f) := by
  intro g
  rw [hasFlag_raise]
  refine ⟨fun set => by simp [set], fun out => ?_⟩
  have other : f ≠ g := fun same => out (by simp [same])
  simp [other]

/-! ## The demand and its urgent mark -/

namespace CompRec

/-- The demand with the urgent mark, which the rules of R58, R59 and R63 give together. -/
def call (r : CompRec) : Demand × Bool := (r.demand, r.urgent)

@[simp] theorem expireWarm_call (r : CompRec) : r.expireWarm.call = r.call := by
  unfold expireWarm
  split <;> rfl

@[simp] theorem warmRetune_call (r : CompRec) : r.warmRetune.call = r.call := by
  unfold warmRetune
  refine (expireWarm_call _).trans ?_
  split
  · rfl
  · split
    · split <;> rfl
    · split <;> rfl

@[simp] theorem applyPending_call (r : CompRec) : r.applyPending.call = r.call := by
  unfold applyPending
  split
  · rfl
  · exact warmRetune_call _

/-- A tuning that a change out of calling applies leaves the demand gone to as it is (R69). -/
@[simp] theorem goTo_call (r : CompRec) (d : Demand) (urgent : Bool) : (r.goTo d urgent).call = (d, urgent) := by
  unfold goTo
  dsimp only
  split
  · exact applyPending_call _
  · rfl

theorem evaluate_of_no_air {r : CompRec} (lost : r.air = none) (fromCalling : Bool) : r.evaluate fromCalling = r := by
  simp [evaluate, error, lost]

/-- An IDLE demand evaluated again calls from D_in on (R58). -/
theorem evaluate_idle_call {r : CompRec} {v : Int} (known : r.air = some v) :
    (r.evaluate false).call = if r.tuning.dIn ≤ v - r.effective then
      (.calling, decide (r.tuning.eUrg ≤ v - r.effective)) else (.idle, false) := by
  by_cases calls : r.tuning.dIn ≤ v - r.effective <;> simp [evaluate, error, known, calls]

/-- A CALLING demand evaluated again calls until -D_out is reached (R58). -/
theorem evaluate_calling_call {r : CompRec} {v : Int} (known : r.air = some v) :
    (r.evaluate true).call = if v - r.effective ≤ -r.tuning.dOut then (.idle, false) else
      (.calling, decide (r.tuning.eUrg ≤ v - r.effective)) := by
  by_cases done : v - r.effective ≤ -r.tuning.dOut
  · simp [evaluate, error, known, done]
  · simp [evaluate, error, known, done, -Int.not_le]

/-- The demand evaluated again is the demand rule at the stored effective setpoint. -/
theorem reevaluate_call (r : CompRec) : r.reevaluate.call = demandRule r r.effective := by
  unfold reevaluate demandRule
  cases demand : r.demand <;> cases air : r.air <;> dsimp only
  case idle.none => simp [evaluate_of_no_air air, call, demand]
  case idle.some => exact evaluate_idle_call air
  case calling.none => simp [evaluate_of_no_air air, call, demand]
  case calling.some => exact evaluate_calling_call air
  all_goals simp [call, demand]

end CompRec

/-! ## The hand-over of the claims -/

/-- `q` differs from `p` only in what a hand-over of the claims to the arbiter can reach. -/
def HandOnly (p q : Part) : Prop :=
  q = { p with path := q.path, defrost := q.defrost, offCycle := q.offCycle, choices := q.choices }

theorem HandOnly.after {p q r : Part} (k : HandOnly q r) (h : HandOnly p q) : HandOnly p r := by
  unfold HandOnly at *
  rw [k, h]

theorem PathOnly.handOnly {p q : Part} (h : PathOnly p q) : HandOnly p q := by
  unfold PathOnly HandOnly at *
  rw [h]

theorem handFFClaim_handOnly (p : Part) : HandOnly p p.handFFClaim := (handFF_path p _ _).handOnly

theorem handFZClaim_handOnly (p : Part) : HandOnly p p.handFZClaim := (handFZ_path p _ _).handOnly

theorem handClaims_handOnly (p : Part) : HandOnly p p.handClaims := by
  unfold Part.handClaims Part.inEitherOrder
  dsimp only
  split
  · split
    · exact (handFFClaim_handOnly _).after ((handFZClaim_handOnly _).after rfl)
    · exact (handFZClaim_handOnly _).after ((handFFClaim_handOnly _).after rfl)
  · exact (handFZClaim_handOnly _).after (handFFClaim_handOnly p)

@[simp] theorem handClaims_doors (p : Part) : p.handClaims.doors = p.doors := by rw [handClaims_handOnly p]

@[simp] theorem handClaims_flags (p : Part) : p.handClaims.flags = p.flags := by rw [handClaims_handOnly p]

/-! ## A compartment record replaced -/

/-- A replaced record is stored, and besides it WARM may be raised with its detail (R67). -/
theorem setComp_cases (p : Part) (c : Comp) (r : CompRec) :
    p.setComp c r = { p with comps := p.comps.set c r } ∨
      p.setComp c r = ({ p with comps := p.comps.set c r } : Part).raiseWarm c := by
  unfold Part.setComp
  dsimp only
  split
  · exact .inr rfl
  · exact .inl rfl

@[simp] theorem setComp_doors (p : Part) (c : Comp) (r : CompRec) : (p.setComp c r).doors = p.doors := by
  unfold Part.setComp
  dsimp only
  split <;> rfl

theorem setComp_onlyRaises (p : Part) (c : Comp) (r : CompRec) : OnlyRaises [.warm] p (p.setComp c r) := by
  rcases setComp_cases p c r with h | h
  · exact .of_flags (by rw [h])
  · rw [h]
    exact raise_onlyRaises p .warm

/-! ## A stack replaced -/

/-- The regulating blocks without the points and the doors: what an event at the compartment unit reaches. -/
theorem InnerOnly.reachesComps {p q : Part} (h : InnerOnly p q) (points : q.points = p.points)
    (doors : q.doors = p.doors) : ReachesComps p q := by
  unfold InnerOnly at h
  rw [points, doors] at h
  have slots : SlotsKept p q := by rw [h]; exact SlotsKept.refl p
  have line : q.line = p.line := by rw [h]
  have egress : q.egress = p.egress := by rw [h]
  refine ⟨by rw [h]; rfl, slots, by rw [line], fun _ => line, fun e held _ => egress ▸ held⟩

/-- The record of a compartment whose stack is replaced: its effective setpoint recomputed, and in REGULATE and SERVICE its
demand evaluated again (R57, R59). -/
def CompRec.restacked (r : CompRec) (active : Bool) (l : List Override) : CompRec :=
  ({ r with stack := l, effective := ({ r with stack := l } : CompRec).ruled } : CompRec).inActive active .reevaluate

theorem setStack_comps (p : Part) (c : Comp) (l : List Override) :
    (p.setStack c l).comps = p.comps.set c ((p.comp c).restacked p.active l) := by
  have overwrite (v : Comps CompRec) (x y : CompRec) : (v.set c x).set c y = v.set c y := by cases c <;> rfl
  simp only [Part.setStack, Part.recompute, handClaims_comps, setComp_comps, overwrite, Part.comp, Comps.get_set_self,
    effectiveOf_eq_ruled]
  rfl

@[simp] theorem setStack_comp_self (p : Part) (c : Comp) (l : List Override) :
    (p.setStack c l).comp c = (p.comp c).restacked p.active l := by
  rw [Part.comp, setStack_comps, Comps.get_set_self]

theorem setStack_comp_other (p : Part) {c k : Comp} (l : List Override) (other : k ≠ c) :
    (p.setStack c l).comp k = p.comp k := by
  rw [Part.comp, setStack_comps, Comps.get_set_other _ _ other]
  rfl

@[simp] theorem setStack_doors (p : Part) (c : Comp) (l : List Override) : (p.setStack c l).doors = p.doors := by
  simp [Part.setStack, Part.recompute]

theorem setStack_onlyRaises (p : Part) (c : Comp) (l : List Override) : OnlyRaises [.warm] p (p.setStack c l) :=
  have stored : OnlyRaises [.warm] p { p with comps := p.comps.set c { p.comp c with stack := l } } := .of_flags rfl
  (stored.trans (setComp_onlyRaises _ c _)).trans (.of_flags (handClaims_flags _))

theorem setStack_reachesComps (p : Part) (c : Comp) (l : List Override) : ReachesComps p (p.setStack c l) :=
  (setStack_inner p c l).reachesComps (setStack_points p c l) (setStack_doors p c l)

namespace CompRec

theorem restacked_demandOnly (r : CompRec) (active : Bool) (l : List Override) :
    DemandOnly { r with stack := l, effective := ({ r with stack := l } : CompRec).ruled } (r.restacked active l) :=
  inActive_demandOnly active (reevaluate_demandOnly _)

@[simp] theorem restacked_stack (r : CompRec) (active : Bool) (l : List Override) :
    (r.restacked active l).stack = l := by
  rw [restacked_demandOnly r active l]

@[simp] theorem restacked_effective (r : CompRec) (active : Bool) (l : List Override) :
    (r.restacked active l).effective = ({ r with stack := l } : CompRec).ruled := by
  rw [restacked_demandOnly r active l]

@[simp] theorem restacked_base (r : CompRec) (active : Bool) (l : List Override) :
    (r.restacked active l).base = r.base := by
  rw [restacked_demandOnly r active l]

/-- In REGULATE and SERVICE the demand is evaluated at the new effective setpoint (R59). -/
theorem restacked_call (r : CompRec) (l : List Override) :
    (r.restacked true l).call = demandRule r ({ r with stack := l } : CompRec).ruled :=
  reevaluate_call _

end CompRec

/-- What a replaced stack does in REGULATE and SERVICE: the new effective setpoint and demand of its compartment, and
nothing of the other compartments, the points or the doors (R57, R59). -/
theorem setStack_active {p : Part} (active : p.active = true) (c : Comp) (l : List Override) :
    let q := p.setStack c l
    let eff := CompRec.ruled { p.comp c with stack := l }
    (q.comp c).stack = l ∧ (q.comp c).effective = eff ∧ (q.comp c).base = (p.comp c).base ∧
      (q.comp c).call = demandRule (p.comp c) eff ∧ (∀ k, k ≠ c → q.comp k = p.comp k) ∧
      OnlyRaises [.warm] p q ∧ ReachesComps p q := by
  dsimp only
  rw [setStack_comp_self, active]
  exact ⟨CompRec.restacked_stack _ _ _, CompRec.restacked_effective _ _ _, CompRec.restacked_base _ _ _,
    CompRec.restacked_call _ _, fun _ other => setStack_comp_other p l other, setStack_onlyRaises p c l,
    setStack_reachesComps p c l⟩

end Sys2Proof.Machine
end

section
/-! Door transitions (R129, R130, R131, R137) and the door recovery request (R55). -/

namespace Sys2Proof.Machine

/-! ## The door recovery request -/

/-- The stack that takes a door recovery (R55): a LIVE entry of origin DOOR refreshed in its place, else an entry pushed. -/
def doorStack (stack : List Override) (offset : Int) (duration : Nat) : List Override :=
  if stack.any Override.liveDoor then stack.map fun o =>
    if o.origin = .door ∧ o.tag = .live then { o with duration := duration, remaining := duration } else o
  else ⟨.offset, offset, duration, duration, .door, .live⟩ :: stack

theorem Override.refreshDoor_eq_ite (o : Override) (n : Nat) : o.refreshDoor n =
    if o.origin = .door ∧ o.tag = .live then { o with duration := n, remaining := n } else o := by
  simp [Override.refreshDoor, Override.liveDoor]

theorem doorRecovery_of_place {p : Part} {c : Comp} {offset : Int} {duration : Nat}
    (place : (p.comp c).stack.any Override.liveDoor = true ∨ (p.comp c).stack.length < stackLimit) :
    p.doorRecovery c offset duration = p.setStack c (doorStack (p.comp c).stack offset duration) := by
  unfold Part.doorRecovery doorStack
  by_cases held : (p.comp c).stack.any Override.liveDoor = true
  · simp only [held, if_true, Override.refreshDoor_eq_ite]
  · have room : (p.comp c).stack.length < stackLimit := place.resolve_left held
    simp only [held, room, if_true]
    rfl

/-- Without a LIVE DOOR entry a full stack takes nothing, and STACK is raised with (compartment, overflow) (R55). -/
theorem doorRecovery_of_full {p : Part} {c : Comp} {offset : Int} {duration : Nat}
    (fresh : (p.comp c).stack.any Override.liveDoor = false) (full : stackLimit ≤ (p.comp c).stack.length) :
    p.doorRecovery c offset duration = p.raiseOverflow c := by
  unfold Part.doorRecovery
  simp only [fresh, Nat.not_lt.2 full, if_false, Bool.false_eq_true]

@[simp] theorem doorRecovery_doors (p : Part) (c : Comp) (offset : Int) (duration : Nat) :
    (p.doorRecovery c offset duration).doors = p.doors := by
  unfold Part.doorRecovery
  dsimp only
  split
  · exact setStack_doors _ _ _
  · split
    · exact setStack_doors _ _ _
    · rfl

/-! ## Transitions -/

section
variable {p : Part} {d : DoorId} {v : Int}

theorem announceDoor_noValue_of_closed (closed : (p.door d).isOpen = false) : p.announceDoor d .noValue = p := by
  simp [Part.announceDoor, closed]

theorem announceDoor_value_of_closed (closed : (p.door d).isOpen = false) (level : v ≠ 1) :
    p.announceDoor d (.value v) = p := by
  simp [Part.announceDoor, closed, level]

/-- The open level announced of a closed door is an opening (R130). -/
theorem announceDoor_opens (closed : (p.door d).isOpen = false) : p.announceDoor d (.value 1) = p.openDoor d := by
  simp [Part.announceDoor, closed]

theorem announceDoor_open_of_open (isOpen : (p.door d).isOpen = true) : p.announceDoor d (.value 1) = p := by
  simp [Part.announceDoor, isOpen]

theorem announceDoor_noValue_closes (isOpen : (p.door d).isOpen = true) :
    p.announceDoor d .noValue = p.closeDoor d .lost := by
  simp [Part.announceDoor, isOpen]

theorem announceDoor_value_closes (isOpen : (p.door d).isOpen = true) (level : v ≠ 1) :
    p.announceDoor d (.value v) = p.closeDoor d .openLevel := by
  simp [Part.announceDoor, isOpen, level]

/-! ## Closings -/

/-- A closing that leaves the recovery alone is the capture of R131 and nothing else: a lost level, another mode than
REGULATE and SERVICE, or a width below the door minimum (R137). -/
theorem closeDoor_without_recovery {how : WidthLevel}
    (short : how = .lost ∨ p.active = false ∨ p.openWidth (p.door d) < (p.comp (doorComp d)).tuning.doorMin) :
    p.closeDoor d how = p.setDoor d ((p.door d).closing (p.openWidth (p.door d)) how) := by
  refine if_neg ?_
  rintro ⟨active, rfl, long⟩
  rcases short with lost | idle | below
  · cases lost
  · exact absurd (idle.symm.trans active) Bool.false_ne_true
  · exact absurd long (Nat.not_le.2 below)

/-- A closing by the level, long enough, hands the recovery on to the compartment (R137). -/
theorem closeDoor_with_recovery (active : p.active = true)
    (long : (p.comp (doorComp d)).tuning.doorMin ≤ p.openWidth (p.door d)) :
    p.closeDoor d .openLevel =
      (p.setDoor d ((p.door d).closing (p.openWidth (p.door d)) .openLevel)).doorRecovery (doorComp d)
        (p.comp (doorComp d)).tuning.doorOffset (p.comp (doorComp d)).tuning.doorDuration :=
  if_pos ⟨active, rfl, long⟩

/-- The width of an open door: its seconds since the opening, saturating at 65 535 (R131). -/
theorem openWidth_of_since {x : DoorRec} {t : Second} (since : x.openSince = some t) :
    p.openWidth x = min 65535 (p.seconds - t).toNat := by
  simp [Part.openWidth, since, widthOf, Part.elapsed]

theorem closeDoor_door (how : WidthLevel) :
    (p.closeDoor d how).door d = (p.door d).closing (p.openWidth (p.door d)) how := by
  have recorded : (p.closeDoor d how).doors = p.doors.set d ((p.door d).closing (p.openWidth (p.door d)) how) := by
    unfold Part.closeDoor Part.testRecovery
    dsimp only
    split
    · exact doorRecovery_doors _ _ _ _
    · rfl
  rw [Part.door, recorded, Doors.get_set_self]

end

/-! ## The obligation -/

/-- Settles O34: the level announced and the level recorded decide between nothing, an opening and a closing; what a long
closing does to the compartment is what its replaced stack does. -/
theorem doorTransitions : Obligations.DoorTransitions := by
  unfold Obligations.DoorTransitions
  refine fun p d v => ⟨fun closed => ⟨announceDoor_noValue_of_closed closed, announceDoor_value_of_closed closed,
    announceDoor_opens closed⟩, fun isOpen => ⟨announceDoor_open_of_open isOpen, fun t since => ?_⟩⟩
  intro w c r shut
  have width : p.openWidth (p.door d) = w := openWidth_of_since since
  have captured (how : WidthLevel) :
      p.setDoor d ((p.door d).closing (p.openWidth (p.door d)) how) = shut how := by rw [width]; rfl
  refine ⟨?_, fun level short => ?_, fun level active long => ?_⟩
  · rw [announceDoor_noValue_closes isOpen, closeDoor_without_recovery (.inl rfl), captured]
  · rw [announceDoor_value_closes isOpen level, closeDoor_without_recovery (.inr (width ▸ short)), captured]
  · rw [announceDoor_value_closes isOpen level]
    have handed : p.closeDoor d .openLevel =
        (shut .openLevel).doorRecovery c r.tuning.doorOffset r.tuning.doorDuration := by
      rw [closeDoor_with_recovery active (width ▸ long), captured]
    refine ⟨?_, fun fresh full => handed.trans (doorRecovery_of_full fresh full), ?_⟩
    · rw [closeDoor_door, ← captured, Part.setDoor_door_self]
    intro stack place
    have taken : p.closeDoor d .openLevel = (shut .openLevel).setStack c stack :=
      handed.trans (doorRecovery_of_place place)
    rw [taken]
    exact setStack_active (p := shut .openLevel) active c stack

end Sys2Proof.Machine
end

section
/-! The end of every event leaves each request in REGULATE as its source asks (R141, R146). -/

namespace Sys2Proof.Machine

/-! ## A slot that follows its source -/

/-- In REGULATE, without a trip mark, the slot's request is what its source asks now (R146). -/
def Part.slotFollows (p : Part) (r : Role) : Prop :=
  p.mode = .regulate → (p.slot r).tripMark = false → (p.slot r).requested = p.regulateAsks r

theorem EdgeOnly.mode_eq {p q : Part} (h : EdgeOnly p q) : q.mode = p.mode := by rw [h]; rfl

/-- Of the edge a source reads only the COMP value sent (R150), which stands in the slots' records. -/
theorem EdgeOnly.regulateAsks_eq {p q : Part} (h : EdgeOnly p q) (kept : SlotsKept p q) (r : Role) :
    q.regulateAsks r = p.regulateAsks r := by
  have sent : q.compSent = p.compSent := congrArg (fun x : SlotRecord => x.sent.getD 0) (kept .comp)
  cases r
  case fanCond =>
    have ambient : q.value 5 = p.value 5 := by rw [h]; rfl
    simp only [Part.regulateAsks, Part.fanCondRule, sent, ambient]
  all_goals
    rw [h]
    rfl

/-- A change at the edge that in REGULATE keeps the slots' records and the slot's request leaves the slot following. -/
theorem slotFollows_of_edge {p q : Part} {r : Role} (h : p.slotFollows r) (edge : EdgeOnly p q)
    (same : p.mode = .regulate → SlotsKept p q ∧ (q.slot r).requested = (p.slot r).requested) :
    q.slotFollows r := by
  intro mode mark
  have regulating : p.mode = .regulate := edge.mode_eq.symm.trans mode
  obtain ⟨kept, requested⟩ := same regulating
  have unmarked : (p.slot r).tripMark = false := (congrArg SlotRecord.tripMark (kept r)).symm.trans mark
  rw [requested, edge.regulateAsks_eq kept r]
  exact h regulating unmarked

/-! ## The end of an event -/

/-- The asks placed (R146) are those of the part after them. -/
theorem placeAsks_slotFollows (p : Part) (r : Role) : p.placeAsks.slotFollows r := by
  intro mode mark
  have regulating : p.mode = .regulate := (placeAsks_edge p).mode_eq.symm.trans mode
  have unmarked : (p.slot r).tripMark = false := (congrArg SlotRecord.tripMark (placeAsks_slots p r)).symm.trans mark
  rw [(placeAsks_edge p).regulateAsks_eq (placeAsks_slots p) r]
  have taken : p.placeAsks.slot r = { p.slot r with requested := p.regulateAsks r } := by
    simp only [Part.placeAsks, regulating, if_true, Part.slot, Roles.get_mapWith]
    exact if_neg (by simpa [Part.slot] using unmarked)
  rw [taken]

@[simp] theorem screenAll_requested (p : Part) (r : Role) :
    (p.screenAll.slot r).requested = (p.slot r).requested := by
  simp only [Part.screenAll, Part.slot, Roles.get_mapWith]
  rfl

theorem screenAll_slotFollows {p : Part} {r : Role} (h : p.slotFollows r) : p.screenAll.slotFollows r :=
  slotFollows_of_edge h (screenAll_edge p) fun _ => ⟨screenAll_slots p, screenAll_requested p r⟩

/-- In REGULATE no relay frame is absorbed into a slot: one to an owned role is refused, every other passes (R155). -/
theorem policy_of_regulate {p : Part} (regulating : p.mode = .regulate) (f : Frame) :
    p.policy f = .pass none ∨ p.policy f = .refuse .mode := by
  unfold Part.policy
  split
  · exact .inl rfl
  · rw [regulating]
    exact .inr rfl

@[simp] theorem refuseRelay_slots (p : Part) (f : Frame) (s : Status) : (p.refuseRelay f s).slots = p.slots := by
  unfold Part.refuseRelay Part.relayReply Part.reply Part.placeReply
  split
  · rfl
  · split <;> rfl

theorem take_slots_of_regulate {p : Part} (regulating : p.mode = .regulate) (c : Candidate) :
    (p.take c).slots = p.slots := by
  cases c with
  | slot r => rfl
  | poll n => rfl
  | relay f rest =>
    simp only [Part.take, Part.takeQueued]
    rcases policy_of_regulate (p := { p with line.relay := rest, line.lastTaken := .relay }) regulating f with h | h
    · rw [h]
      rfl
    · rw [h]
      exact refuseRelay_slots _ _ _

theorem take_slotFollows {p : Part} {r : Role} (c : Candidate) (h : p.slotFollows r) : (p.take c).slotFollows r := by
  refine slotFollows_of_edge h (take_edge p c) fun regulating => ?_
  have slots := take_slots_of_regulate regulating c
  exact ⟨fun x => by rw [Part.slot, slots]; rfl, by rw [Part.slot, slots]; rfl⟩

/-- After the end of any event every slot follows its source. -/
theorem settle_slotFollows (p : Part) (r : Role) : p.settle.slotFollows r :=
  arbitrate_induct (P := fun q => q.slotFollows r)
    (fun _ c h _ _ => screenAll_slotFollows (take_slotFollows c h)) _ _
    (screenAll_slotFollows (placeAsks_slotFollows p r))

/-! ## Every step -/

/-- A command leaves the part at the end of an event, but for POWER_ON_RESET and MAIN_FRAME_DISCARD. -/
theorem exec_part_cases {i : Instr} {s t : State} (e : exec i s = .next t) :
    t.part = s.part ∨ t.part = Part.initial ∨ ∃ p : Part, t.part = p.settle := by
  cases i with
  | mainFrameDiscard =>
    cases e
    exact .inl rfl
  | powerOnReset =>
    cases e
    exact .inr (.inl rfl)
  | _ =>
    cases e
    exact .inr (.inr ⟨_, rfl⟩)

theorem step_part_cases {s t : State} (e : step s = .next t) :
    t.part = s.part ∨ t.part = Part.initial ∨ ∃ p : Part, t.part = p.settle := by
  unfold step at e
  split at e
  case h_1 =>
    cases e
    exact .inr (.inr ⟨_, rfl⟩)
  case h_2 _ rest _ => exact exec_part_cases (s := { s with pending := rest }) e

/-- The power-on mode is not REGULATE (R207). -/
theorem initial_slotFollows (r : Role) : Part.initial.slotFollows r := nofun

/-- A slot that follows its source follows it after every step. -/
theorem step_slotFollows {s t : State} {r : Role} (h : s.part.slotFollows r) (e : step s = .next t) :
    t.part.slotFollows r := by
  rcases step_part_cases e with same | reset | ⟨p, settled⟩
  · rw [same]
    exact h
  · rw [reset]
    exact initial_slotFollows r
  · rw [settled]
    exact settle_slotFollows p r

end Sys2Proof.Machine
end

section
/-! The freezer fan and the damper follow their rules (R148, R149). -/

namespace Sys2Proof.Machine

/-! ## The conditions of the rules -/

theorem runs_iff (p : Part) (k : Claimant) :
    p.runs k = true ↔ p.path.state = .run ∧ p.path.holder = some k ∧ p.path.runStarted = true := by
  simp [Part.runs, and_assoc]

theorem Demand.isCalling_iff (d : Demand) : d.isCalling = true ↔ d = .calling ∨ d = .blindCall := by
  simp [Demand.isCalling]

/-- R148's condition: FZ's run has started, the defrost phase is not RECOVER, and FZ_STOP does not hold. -/
def Part.fanFZOn (p : Part) : Prop :=
  p.path.state = .run ∧ p.path.holder = some .fz ∧ p.path.runStarted = true ∧ p.defrost.phase ≠ .recover ∧
    p.doors.fz.stopActive = false

/-- R149's condition: CD calls, FZ's run has started, and CD_STOP does not hold. -/
def Part.damperOn (p : Part) : Prop :=
  (p.comps.cd.demand = .calling ∨ p.comps.cd.demand = .blindCall) ∧ p.path.state = .run ∧
    p.path.holder = some .fz ∧ p.path.runStarted = true ∧ p.doors.cd.stopActive = false

theorem eq_fanFZRule_iff (p : Part) (v : Nat) :
    v = p.fanFZRule ↔ (p.fanFZOn → v = p.comps.fz.tuning.fan) ∧ (¬p.fanFZOn → v = 0) := by
  have holds : (p.runs .fz && decide (p.defrost.phase ≠ .recover) && !p.fzStop) = true ↔ p.fanFZOn := by
    simp [runs_iff, Part.fanFZOn, Part.fzStop, and_assoc]
  rw [Part.fanFZRule, eq_comm, ite_eq_iff', holds, eq_comm (b := v), eq_comm (b := v)]

theorem eq_damperRule_iff (p : Part) (v : Nat) :
    v = p.damperRule ↔ (p.damperOn → v = 100) ∧ (¬p.damperOn → v = 0) := by
  have holds : (p.comps.cd.demand.isCalling && p.runs .fz && !p.cdStop) = true ↔ p.damperOn := by
    simp [runs_iff, Demand.isCalling_iff, Part.damperOn, Part.cdStop, and_assoc]
  rw [Part.damperRule, eq_comm, ite_eq_iff', holds, eq_comm (b := v), eq_comm (b := v)]

/-! ## The obligation -/

/-- The two requests stand as the rules give them exactly where both slots follow their sources. -/
theorem fanFZ_and_damper_follow_iff (p : Part) :
    (p.slotFollows .fanFZ ∧ p.slotFollows .damperCD) ↔ (p.mode = .regulate →
      (p.slots.fanFZ.tripMark = false →
        (p.fanFZOn → p.slots.fanFZ.requested = p.comps.fz.tuning.fan) ∧
          (¬p.fanFZOn → p.slots.fanFZ.requested = 0)) ∧
      (p.slots.damperCD.tripMark = false →
        (p.damperOn → p.slots.damperCD.requested = 100) ∧ (¬p.damperOn → p.slots.damperCD.requested = 0))) := by
  rw [← eq_fanFZRule_iff, ← eq_damperRule_iff]
  exact imp_and.symm

/-- Settles O45: both rules are asks of REGULATE, so every step leaves the two slots following them. -/
theorem freezerFanAndDamperFollowTheirRules : Obligations.FreezerFanAndDamperFollowTheirRules := by
  unfold Obligations.FreezerFanAndDamperFollowTheirRules
  refine ⟨(fanFZ_and_damper_follow_iff _).1 ⟨initial_slotFollows _, initial_slotFollows _⟩, fun s t stands e => ?_⟩
  obtain ⟨fan, damper⟩ := (fanFZ_and_damper_follow_iff s.part).2 stands
  exact (fanFZ_and_damper_follow_iff t.part).1 ⟨step_slotFollows fan e, step_slotFollows damper e⟩

end Sys2Proof.Machine
end
